-- ==== Sys2Proof/Word.lean ====
section
/-! DEFINITION. The word types of the block and nothing else: a byte of BUF or of the wire, and the 32-bit
word of the host bus (00_scope.md R8, 10_state.md R25). -/

namespace Sys2Proof

/-- One byte: a BUF cell, a tag, a key byte (00_scope.md R10, R13). -/
abbrev Byte := BitVec 8

/-- One 32-bit word: the host bus, the command word, a 32-bit CSR (10_state.md R25, 30_encoding.md R81). -/
abbrev Word := BitVec 32

end Sys2Proof
end

