-- ==== Sys2Proof/Syntax.lean ====
section
/-! DEFINITION. The syntax: the 31 commands of 30_encoding.md R84, one constructor per row of
spec/opcode_table.json, and the three fields of a command word (R81). -/

namespace Sys2Proof

/-- A command of the block. A constructor holds the TAG operand exactly where R83 makes TAG an operand;
every other operand is a CSR (R85). -/
inductive Instr where
  /-- TLV.PLEN (OPC 0x10, R112): parse a length header at CUR. -/
  | tlvPlen
  /-- TLV.ELEN (OPC 0x11, R113): write the length header of LEN at CUR. -/
  | tlvElen
  /-- TLV.VTAG (OPC 0x12, R114): validate the tag at CUR and parse its length header. -/
  | tlvVtag (tag : Byte)
  /-- TLV.PBYTE (OPC 0x13, R115): parse a byte TLV. -/
  | tlvPbyte (tag : Byte)
  /-- TLV.PU16 (OPC 0x14, R116): parse a 16-bit TLV. -/
  | tlvPu16 (tag : Byte)
  /-- TLV.PU24 (OPC 0x15, R117): parse a 24-bit TLV. -/
  | tlvPu24 (tag : Byte)
  /-- TLV.PU32 (OPC 0x16, R118): parse a 32-bit TLV. -/
  | tlvPu32 (tag : Byte)
  /-- TLV.PU64 (OPC 0x17, R119): parse a 64-bit TLV. -/
  | tlvPu64 (tag : Byte)
  /-- TLV.PSTR (OPC 0x18, R120): parse a string TLV. -/
  | tlvPstr (tag : Byte)
  /-- TLV.EBYTE (OPC 0x19, R121): encode a byte TLV. -/
  | tlvEbyte (tag : Byte)
  /-- TLV.EU16 (OPC 0x1A, R122): encode a 16-bit TLV. -/
  | tlvEu16 (tag : Byte)
  /-- TLV.EU24 (OPC 0x1B, R123): encode a 24-bit TLV. -/
  | tlvEu24 (tag : Byte)
  /-- TLV.EU32 (OPC 0x1C, R124): encode a 32-bit TLV. -/
  | tlvEu32 (tag : Byte)
  /-- TLV.EU64 (OPC 0x1D, R125): encode a 64-bit TLV. -/
  | tlvEu64 (tag : Byte)
  /-- TLV.ESTR (OPC 0x1E, R128): encode a string TLV. -/
  | tlvEstr (tag : Byte)
  /-- TLV.EBOOL (OPC 0x1F, R129): refuse to encode a boolean. -/
  | tlvEbool
  /-- CRC.CALC (OPC 0x20, R143): compute the CRC of a span. -/
  | crcCalc
  /-- CRC.GEN (OPC 0x21, R147): compute the CRC of a span and write it after the span. -/
  | crcGen
  /-- CRC.CHECK (OPC 0x22, R148): check a span against the CRC after it. -/
  | crcCheck
  /-- SIG.GEN (OPC 0x23, R160): sign a frame. -/
  | sigGen
  /-- SIG.VERIFY (OPC 0x24, R161): verify a frame's signature. -/
  | sigVerify
  /-- TIME.TOWIRE (OPC 0x30, R177): absolute timestamp to wire time. -/
  | timeToWire
  /-- TIME.TOWIREHP (OPC 0x31, R178): absolute timestamp to wire time, quantised to frames. -/
  | timeToWireHp
  /-- TIME.FROMWIRE (OPC 0x32, R179): wire time to absolute timestamp. -/
  | timeFromWire
  /-- TIME.PACKRT (OPC 0x33, R180): combine a RefrTm word. -/
  | timePackRt
  /-- TIME.UNPACKRT (OPC 0x34, R181): split a RefrTm word. -/
  | timeUnpackRt
  /-- HDR.DETECT (OPC 0x40, R194): classify the frame at SRC. -/
  | hdrDetect
  /-- HDR.PARSE (OPC 0x41, R214): detect and parse the header at SRC. -/
  | hdrParse
  /-- HDR.GENPLAIN (OPC 0x42, R215): write a plain header at SRC. -/
  | hdrGenPlain
  /-- HDR.GENSESSION (OPC 0x43, R217): write a session header at SRC. -/
  | hdrGenSession
  /-- HDR.CMDCHECK (OPC 0x44, R219): decode a command frame and check its CRC. -/
  | hdrCmdCheck
  deriving DecidableEq, Repr

/-- The three fields of a command word: RSVD = w[31:16], TAG = w[15:8], OPC = w[7:0] (R81). -/
structure CmdFields where
  rsvd : BitVec 16
  tag : Byte
  opc : Byte
  deriving DecidableEq, Repr

/-- The opcode of a command, column OPC of the map (R84). -/
def Instr.opcode : Instr → Byte
  | .tlvPlen => 0x10
  | .tlvElen => 0x11
  | .tlvVtag _ => 0x12
  | .tlvPbyte _ => 0x13
  | .tlvPu16 _ => 0x14
  | .tlvPu24 _ => 0x15
  | .tlvPu32 _ => 0x16
  | .tlvPu64 _ => 0x17
  | .tlvPstr _ => 0x18
  | .tlvEbyte _ => 0x19
  | .tlvEu16 _ => 0x1A
  | .tlvEu24 _ => 0x1B
  | .tlvEu32 _ => 0x1C
  | .tlvEu64 _ => 0x1D
  | .tlvEstr _ => 0x1E
  | .tlvEbool => 0x1F
  | .crcCalc => 0x20
  | .crcGen => 0x21
  | .crcCheck => 0x22
  | .sigGen => 0x23
  | .sigVerify => 0x24
  | .timeToWire => 0x30
  | .timeToWireHp => 0x31
  | .timeFromWire => 0x32
  | .timePackRt => 0x33
  | .timeUnpackRt => 0x34
  | .hdrDetect => 0x40
  | .hdrParse => 0x41
  | .hdrGenPlain => 0x42
  | .hdrGenSession => 0x43
  | .hdrCmdCheck => 0x44

/-- The TAG operand of a command, where it has one (R83). -/
def Instr.tag? : Instr → Option Byte
  | .tlvPlen => none
  | .tlvElen => none
  | .tlvVtag t => some t
  | .tlvPbyte t => some t
  | .tlvPu16 t => some t
  | .tlvPu24 t => some t
  | .tlvPu32 t => some t
  | .tlvPu64 t => some t
  | .tlvPstr t => some t
  | .tlvEbyte t => some t
  | .tlvEu16 t => some t
  | .tlvEu24 t => some t
  | .tlvEu32 t => some t
  | .tlvEu64 t => some t
  | .tlvEstr t => some t
  | .tlvEbool => none
  | .crcCalc => none
  | .crcGen => none
  | .crcCheck => none
  | .sigGen => none
  | .sigVerify => none
  | .timeToWire => none
  | .timeToWireHp => none
  | .timeFromWire => none
  | .timePackRt => none
  | .timeUnpackRt => none
  | .hdrDetect => none
  | .hdrParse => none
  | .hdrGenPlain => none
  | .hdrGenSession => none
  | .hdrCmdCheck => none

/-- The fields of the word the assembler writes for a command: RSVD = 0, and TAG = 0 where the command takes
no tag (30_encoding.md R88). -/
def Instr.fields (i : Instr) : CmdFields :=
  { rsvd := 0, tag := i.tag?.getD 0, opc := i.opcode }

end Sys2Proof
end

