-- ==== Sys2Proof/WellFormed.lean ====
section
/-! DEFINITION. Which command words are well formed (30_encoding.md R82, R86). A command's own field, the tag,
is bounded by its type; what can be ill formed is the word the host writes: reserved bits that are not 0, or an
opcode outside the map. -/

namespace Sys2Proof

/-- The opcodes of the map of R84. -/
def listedOpcodes : List Byte :=
  [0x10, 0x11, 0x12, 0x13, 0x14, 0x15, 0x16, 0x17, 0x18, 0x19, 0x1A, 0x1B, 0x1C, 0x1D, 0x1E, 0x1F] ++
  [0x20, 0x21, 0x22, 0x23, 0x24] ++
  [0x30, 0x31, 0x32, 0x33, 0x34] ++
  [0x40, 0x41, 0x42, 0x43, 0x44]

/-- RSVD must be 0 (R81, R82). -/
def CmdFields.reservedClear (f : CmdFields) : Bool := f.rsvd == 0

/-- OPC must be one of the 31 opcodes (R82, R86). -/
def CmdFields.opcodeListed (f : CmdFields) : Bool := listedOpcodes.contains f.opc

/-- A command word the block executes: both checks of R82 pass. -/
def CmdFields.wellFormed (f : CmdFields) : Bool := f.reservedClear && f.opcodeListed

/-- A command is well formed when the word the assembler writes for it is (R82, R88). -/
def Instr.wellFormed (i : Instr) : Bool := i.fields.wellFormed

end Sys2Proof
end

