-- ==== Sys2Proof/Decode.lean ====
section
/-! DEFINITION. Decoding of a command word, total, rejecting by name (30_encoding.md R81 to R83, R86), and the
encoder (R88). A command word is one 32-bit bus word written to CMD, never bytes in memory, so no byte order
enters here (R75, R87). -/

namespace Sys2Proof

/-- Why a command word is no command (R82). -/
inductive DecodeError where
  /-- w[31:16] is not 0: IllegalCommand(ReservedBits, 0). -/
  | reservedBits
  /-- OPC is not in the map: IllegalCommand(UnknownOpcode, OPC). -/
  | unknownOpcode (opc : Byte)
  deriving DecidableEq, Repr

/-- The fields of a command word (R81). -/
def splitWord (w : Word) : CmdFields :=
  { rsvd := w.extractLsb' 16 16, tag := w.extractLsb' 8 8, opc := w.extractLsb' 0 8 }

/-- The command word with the given fields (R81). -/
def joinWord (f : CmdFields) : Word := f.rsvd ++ f.tag ++ f.opc

/-- The command an opcode names, given the TAG field; TAG is dropped where the command ignores it (R83, R84). -/
def commandOf (opc tag : Byte) : Option Instr :=
  match opc.toNat with
  | 0x10 => some .tlvPlen
  | 0x11 => some .tlvElen
  | 0x12 => some (.tlvVtag tag)
  | 0x13 => some (.tlvPbyte tag)
  | 0x14 => some (.tlvPu16 tag)
  | 0x15 => some (.tlvPu24 tag)
  | 0x16 => some (.tlvPu32 tag)
  | 0x17 => some (.tlvPu64 tag)
  | 0x18 => some (.tlvPstr tag)
  | 0x19 => some (.tlvEbyte tag)
  | 0x1A => some (.tlvEu16 tag)
  | 0x1B => some (.tlvEu24 tag)
  | 0x1C => some (.tlvEu32 tag)
  | 0x1D => some (.tlvEu64 tag)
  | 0x1E => some (.tlvEstr tag)
  | 0x1F => some .tlvEbool
  | 0x20 => some .crcCalc
  | 0x21 => some .crcGen
  | 0x22 => some .crcCheck
  | 0x23 => some .sigGen
  | 0x24 => some .sigVerify
  | 0x30 => some .timeToWire
  | 0x31 => some .timeToWireHp
  | 0x32 => some .timeFromWire
  | 0x33 => some .timePackRt
  | 0x34 => some .timeUnpackRt
  | 0x40 => some .hdrDetect
  | 0x41 => some .hdrParse
  | 0x42 => some .hdrGenPlain
  | 0x43 => some .hdrGenSession
  | 0x44 => some .hdrCmdCheck
  | _ => none

/-- Decoding on a CMD write of w: the reserved bits first, then the opcode (R82). -/
def decode (w : Word) : Except DecodeError Instr :=
  let f := splitWord w
  if f.rsvd ≠ 0 then .error .reservedBits
  else
    match commandOf f.opc f.tag with
    | some i => .ok i
    | none => .error (.unknownOpcode f.opc)

/-- The word the assembler writes for a command: (TAG << 8) | OPC, with TAG = 0 where TAG is ignored (R88, log 16). -/
def encode (i : Instr) : Word := joinWord i.fields

/-- The command the decoder reads from the table's numbering of an instruction's bits: bit 0 is the least
significant bit of the one 32-bit word, and bits from nbits on are 0 (log 1). -/
def decodeTableWord (nbits w : Nat) : Option Instr :=
  match decode (BitVec.ofNat 32 (w % 2 ^ nbits)) with
  | .ok i => some i
  | .error _ => none

end Sys2Proof
end

