-- ==== Sys2Proof/Config.lean ====
section
/-! DEFINITION. What an implementation of the block fixes (00_scope.md R6) and the constants the source settles
(R7). A parameter with no default is an uninterpreted constant: nothing in Lean can prove a value of it. -/

namespace Sys2Proof

/-! ## OPEN parameters without a default, and free values: uninterpreted (log 4, log 9) -/

/-- The byte BUF holds at an offset after the given platform reset: unspecified, any value (10_state.md R60,
93 U1). The first argument counts the resets, so that two resets need not leave the same bytes. Log 4. -/
opaque Config.bufReset : Nat → Nat → Byte

/-- CSR_BASE, the host address of the CSR window (R6, 20_memory.md R74). Log 9. -/
opaque Config.csrBase : Nat

/-- BUF_BASE, the host address of BUF (R6, 20_memory.md R74). Log 9. -/
opaque Config.bufBase : Nat

/-- DUMMY_KEYLEN, 0 to 64 (R6). Log 9. -/
opaque Config.dummyKeyLen : Fin 65

/-- DUMMY_KEY, by byte index; only indices below DUMMY_KEYLEN are read (R6, 10_state.md R58). Log 9. -/
opaque Config.dummyKey : Nat → Byte

/-- MAC_AES, a total function from key bytes and message bytes to 16 bytes, the first byte the most significant
(R6, 41_checksum_signature.md R155). Log 9. -/
opaque Config.macAes : List Byte → List Byte → BitVec 128

/-- DEFAULT_SESSION_HDRLEN (R6, 10_state.md R52). Log 9. -/
opaque Config.defaultSessionHdrLen : BitVec 16

/-! ## Parameters with a default: an argument of the machine -/

/-- The parameters of R6 that have a default, at any value R6 allows. The machine takes them in State.params, so what
is proved for every state is proved for every choice of them (log 5). -/
structure Params where
  /-- BUF_SIZE: bytes in BUF. -/
  bufSize : Nat
  /-- SYNC_BYTE. -/
  syncByte : Byte
  /-- CLTP_TAG. -/
  cltpTag : Byte
  /-- TAG_SVPDU. -/
  tagSvPdu : Byte
  /-- TAG_ASDUCOUNT. -/
  tagAsduCount : Byte
  /-- TAG_SEQASDU. -/
  tagSeqAsdu : Byte
  /-- FT_DATA. -/
  ftData : BitVec 3
  /-- FT_CFG. -/
  ftCfg : BitVec 3
  /-- FT_CMD. -/
  ftCmd : BitVec 3
  /-- SIG_NONE. -/
  sigNone : Byte
  /-- SIG_SHA80. -/
  sigSha80 : Byte
  /-- SIG_SHA128. -/
  sigSha128 : Byte
  /-- SIG_SHA256. -/
  sigSha256 : Byte
  /-- SIG_AES64. -/
  sigAes64 : Byte
  /-- SIG_AES128. -/
  sigAes128 : Byte
  /-- SEC_CODES, as a list of its members. -/
  secCodes : List Byte
  /-- CRC_POLY. -/
  crcPoly : BitVec 16
  /-- CRC_INIT. -/
  crcInit : BitVec 16
  /-- RSV0. -/
  rsv0 : Byte
  /-- RSV1. -/
  rsv1 : Byte
  /-- CLTP_LI_RESET. -/
  cltpLiReset : Byte
  /-- BUF_SIZE is a value from 64 to 2^32 (R6). -/
  bufSizeLegal : 64 ≤ bufSize ∧ bufSize ≤ 2 ^ 32
  /-- The three frame-type codes differ (R6). -/
  frameTypesDiffer : [ftData, ftCfg, ftCmd].Nodup
  /-- The six signature codes differ (R6). -/
  sigCodesDiffer : [sigNone, sigSha80, sigSha128, sigSha256, sigAes64, sigAes128].Nodup
  deriving DecidableEq, Repr

/-- Every parameter at the default R6 gives it: BUF_SIZE is the spec's own choice (92 D3); the others are PRESUMED
from general knowledge (93 GK1 to GK9). State.reset is the machine built with them (logs 5, 6, 7). -/
def Params.default : Params where
  bufSize := 65536
  syncByte := 0xAA
  cltpTag := 0x40
  tagSvPdu := 0x60
  tagAsduCount := 0x80
  tagSeqAsdu := 0xA2
  ftData := 0
  ftCfg := 3
  ftCmd := 4
  sigNone := 0
  sigSha80 := 1
  sigSha128 := 2
  sigSha256 := 3
  sigAes64 := 4
  sigAes128 := 5
  secCodes := [0, 1, 2]
  crcPoly := 0x1021
  crcInit := 0xFFFF
  rsv0 := 0x80
  rsv1 := 0x16
  cltpLiReset := 1
  bufSizeLegal := by decide
  frameTypesDiffer := by decide
  sigCodesDiffer := by decide

/-- SIG_SPAN_START: R6 gives it the one value 2 (92 D27). -/
def Config.sigSpanStart : Nat := 2

/-! ## Constants the source settles (R7) -/

/-- PLAIN_HDR_LEN (R7). -/
def Config.plainHdrLen : Nat := 14
/-- SESSION_TYPE_SV, SampledValues (R7). -/
def Config.sessionTypeSv : Byte := 0xA2
/-- SESSION_HEADER_SIZE (R7). -/
def Config.sessionHeaderSize : Byte := 0x18
/-- SESSION_MIN = SESSION_HEADER_SIZE + the 2-byte CLTP prefix (R7). -/
def Config.sessionMin : Nat := 26
/-- PAYLOAD_TYPE (R7). -/
def Config.payloadType : Byte := 0x82
/-- SIG_MARKER (R7). -/
def Config.sigMarker : Byte := 0x85
/-- SESSION_VERSION, written on encode (R7). -/
def Config.sessionVersion : BitVec 16 := 1
/-- TIMEBASE_STD, 2^24 ticks per second (R7). -/
def Config.timebaseStd : Nat := 16777216
/-- NS_PER_S (R7). -/
def Config.nsPerS : Nat := 1000000000
/-- The CONFIG defaults of R7: IgnoreSignature true, every other flag false (10_state.md R30). -/
def Config.configReset : BitVec 6 := 0x01
/-- The reset value of TQMASK (10_state.md R42). -/
def Config.tqMaskReset : Word := 0xFF000000

/-! ### ASDU tags (R7): no command reads them; the host passes them as TAG operands -/

/-- The ASDU tag AsduSequence (R7). -/
def Config.asduTagAsduSequence : Byte := 0x30
/-- The ASDU tag MsvId (R7). -/
def Config.asduTagMsvId : Byte := 0x80
/-- The ASDU tag SmpCnt (R7). -/
def Config.asduTagSmpCnt : Byte := 0x82
/-- The ASDU tag ConfRev (R7). -/
def Config.asduTagConfRev : Byte := 0x83
/-- The ASDU tag RefrTm (R7). -/
def Config.asduTagRefrTm : Byte := 0x84
/-- The ASDU tag SmpSynch (R7). -/
def Config.asduTagSmpSynch : Byte := 0x85
/-- The ASDU tag SmpRate (R7). -/
def Config.asduTagSmpRate : Byte := 0x86
/-- The ASDU tag Samples (R7). -/
def Config.asduTagSamples : Byte := 0x87
/-- The ASDU tag SmpMod (R7). -/
def Config.asduTagSmpMod : Byte := 0x88
/-- The ASDU tag UtcTimestamp (R7). -/
def Config.asduTagUtcTimestamp : Byte := 0x89

end Sys2Proof
end

