-- ==== Sys2Proof/Machine/State.lean ====
section
/-! DEFINITION. The state of the machine as plain data (10_state.md R22, R25), the events the host and the
platform send it, the reasons a step can stop, and the state after reset (70_reset_and_hazards.md R261). -/

namespace Sys2Proof.Machine

/-- The two host address ranges of the block (20_memory.md R74). -/
inductive Window where
  /-- The 4 KiB CSR window. -/
  | csr
  /-- The buffer BUF. -/
  | buf
  deriving DecidableEq, Repr

/-- One thing the outside world does to the block. An access names its window, its byte offset in it and its
width in bytes; widths and offsets that 20_memory.md R66 does not admit can be written down, and have no step
(log 10). -/
inductive HostEvent where
  /-- A host read. -/
  | read (win : Window) (off bytes : Nat)
  /-- A host write. A one-byte access carries its byte in the low 8 bits of the value (log 14). -/
  | write (win : Window) (off bytes : Nat) (v : Word)
  /-- A platform reset (70_reset_and_hazards.md R263, log 12). -/
  | platformReset
  deriving DecidableEq, Repr

/-- Why a step stops. Every error of a command is a next state instead (60_exceptions.md R236). -/
inductive Fault where
  /-- Raised by the host bus on a CSR access that is not one aligned 32-bit word: R66 gives it no step (log 10).
  Safe. -/
  | stuckCsrAccess
  /-- Raised by the host bus on a CSR offset past the 4 KiB window (R74): no such location (log 11).
  Safe. -/
  | outsideCsrWindow
  /-- Raised by the host bus on a BUF access wider than one byte, or at an offset at or past BUF_SIZE: R66 gives
  it no step (log 10). Safe. -/
  | stuckBufAccess
  deriving DecidableEq, Repr

/-- Why an instruction has no meaning. -/
inductive Refusal where
  /-- Raised by exec alone, for a command that has no meaning yet. Safe. No arm raises it in this model. -/
  | notModelled (mnemonic : String)
  deriving DecidableEq, Repr

/-- The state of one instance of the block. -/
structure State where
  /-- STATUS: RES[1:0], SIGFAIL[2], HDRLEN_VALID[3] (R27). -/
  status : BitVec 4
  /-- ERR: KIND[7:0], REASON[15:8], INFO[23:16] (R28). -/
  err : BitVec 24
  /-- NEED (R29). -/
  need : Word
  /-- CONFIG (R30). -/
  config : BitVec 6
  /-- CUR, the cursor (R31). -/
  cur : Word
  /-- LIM, the window's exclusive end (R32). -/
  lim : Word
  /-- SRC (R33). -/
  src : Word
  /-- LEN (R34). -/
  len : Word
  /-- VAL_LO (R35). -/
  valLo : Word
  /-- VAL_HI (R35). -/
  valHi : Word
  /-- RLEN (R36). -/
  rlen : Word
  /-- RADDR (R37). -/
  raddr : Word
  /-- CRC (R38). -/
  crc : BitVec 16
  /-- TIMEBASE (R39). -/
  timebase : Word
  /-- FPS (R41). -/
  fps : BitVec 16
  /-- TQMASK (R42). -/
  tqMask : Word
  /-- T_SEC (R43). -/
  tSec : Word
  /-- T_NS (R43). -/
  tNs : Word
  /-- W_SOC (R44). -/
  wSoc : Word
  /-- W_FRAC (R44). -/
  wFrac : Word
  /-- TQ: IND[3:0], FLAGS[7:4] (R45). -/
  tq : BitVec 8
  /-- H_FORMAT: 0 NONE, 1 PLAIN, 2 SESSION (R46). -/
  hFormat : BitVec 2
  /-- H_TYPE (R47). -/
  hType : BitVec 3
  /-- H_VERSION (R48). -/
  hVersion : BitVec 4
  /-- H_FRAMELEN (R49). -/
  hFrameLen : BitVec 16
  /-- H_IDCODE (R50). -/
  hIdCode : BitVec 16
  /-- H_SOC (R51). -/
  hSoc : Word
  /-- H_FRACSEC (R51). -/
  hFracSec : Word
  /-- H_HDRLEN (R52). -/
  hHdrLen : BitVec 16
  /-- S_CLTPLEN (R53). -/
  sCltpLen : BitVec 8
  /-- S_SPDULEN (R53). -/
  sSpduLen : Word
  /-- S_PKTNUM (R53). -/
  sPktNum : Word
  /-- S_VERSION (R53). -/
  sVersion : BitVec 16
  /-- S_KEYTIME0 (R53). -/
  sKeyTime0 : Word
  /-- S_KEYTIME1 (R53). -/
  sKeyTime1 : BitVec 16
  /-- S_SECALG (R54). -/
  sSecAlg : BitVec 8
  /-- S_SIGALG (R54). -/
  sSigAlg : BitVec 8
  /-- S_KEYID (R53). -/
  sKeyId : Word
  /-- S_PAYLEN (R53). -/
  sPayLen : Word
  /-- S_SIM (R53). -/
  sSim : BitVec 8
  /-- S_APPID (R53). -/
  sAppId : BitVec 16
  /-- S_ASDULEN (R53). -/
  sAsduLen : BitVec 16
  /-- S_ASDUCOUNT (R55). -/
  sAsduCount : BitVec 8
  /-- S_BODYLEN (R55). -/
  sBodyLen : Word
  /-- KEYLEN (R57). -/
  keyLen : BitVec 7
  /-- KEY0 to KEY15 (R58). -/
  key : Vector Word 16
  /-- BUF (R60): the bytes written since the last reset, in the canonical form of Memory.wf; an unlisted byte holds
  its unspecified reset value (log 4). -/
  buf : List Host.Cell
  /-- The MODEL's own: the parameters the block is built with, which nothing changes (00_scope.md R6, log 5). -/
  params : Params
  /-- The MODEL's own: the host events not yet performed, oldest first (R71, log 1). -/
  pending : List HostEvent
  /-- The MODEL's own: the value the last host read returned (log 3). -/
  readData : Word
  /-- The MODEL's own: how many platform resets there have been (log 4). -/
  resets : Nat
  deriving DecidableEq, Repr

/-- Key byte i at reset: DUMMY_KEY[i] below DUMMY_KEYLEN, 0 from there on (10_state.md R58). -/
def resetKeyByte (i : Nat) : Byte :=
  if i < Config.dummyKeyLen.val then Config.dummyKey i else 0

/-- KEYk at reset, key byte 4k in its low byte (10_state.md R58). -/
def resetKeyWord (k : Nat) : Word :=
  resetKeyByte (4 * k + 3) ++ resetKeyByte (4 * k + 2) ++ resetKeyByte (4 * k + 1) ++ resetKeyByte (4 * k)

/-- The key bank at reset (10_state.md R58). -/
def resetKeyBank : Vector Word 16 :=
  #v[resetKeyWord 0, resetKeyWord 1, resetKeyWord 2, resetKeyWord 3,
     resetKeyWord 4, resetKeyWord 5, resetKeyWord 6, resetKeyWord 7,
     resetKeyWord 8, resetKeyWord 9, resetKeyWord 10, resetKeyWord 11,
     resetKeyWord 12, resetKeyWord 13, resetKeyWord 14, resetKeyWord 15]

/-- The machine built with the parameters p, right after reset (70_reset_and_hazards.md R261), with no host event
pending. -/
def State.resetWith (p : Params) : State where
  status := 0
  err := 0
  need := 0
  config := Config.configReset
  cur := 0
  lim := 0
  src := 0
  len := 0
  valLo := 0
  valHi := 0
  rlen := 0
  raddr := 0
  crc := 0
  timebase := BitVec.ofNat 32 Config.timebaseStd
  fps := 0
  tqMask := Config.tqMaskReset
  tSec := 0
  tNs := 0
  wSoc := 0
  wFrac := 0
  tq := 0
  hFormat := 0
  hType := 0
  hVersion := 0
  hFrameLen := 0
  hIdCode := 0
  hSoc := 0
  hFracSec := 0
  hHdrLen := 0
  sCltpLen := p.cltpLiReset
  sSpduLen := 0
  sPktNum := 0
  sVersion := 0
  sKeyTime0 := 0
  sKeyTime1 := 0
  sSecAlg := 0
  sSigAlg := 0
  sKeyId := 0
  sPayLen := 0
  sSim := 0
  sAppId := 0
  sAsduLen := 0
  sAsduCount := 0
  sBodyLen := 0
  keyLen := BitVec.ofNat 7 Config.dummyKeyLen.val
  key := resetKeyBank
  buf := []
  params := p
  pending := []
  readData := 0
  resets := 0

/-- The machine right after reset, built with the spec's default parameters (R6, R261, log 5). -/
def State.reset : State := State.resetWith Params.default

end Sys2Proof.Machine
end

