-- ==== Sys2Proof/Machine/Errors.lean ====
section
/-! DEFINITION. The error taxonomy of 60_exceptions.md (kinds R231, reasons R232, the information byte R233) and
the two ways a command ends without completing (00_scope.md R11). -/

namespace Sys2Proof.Machine

/-- The error kinds (R231). -/
inductive ErrKind where
  | protocolViolation | checksumMismatch | signatureMismatch | missingSignatureTag
  /-- Reserved: no command of the block raises it (R235). -/
  | sampleSizeMismatch
  | valueTooLarge | unsupportedType | outOfBounds | illegalCommand | badArgument | lengthOverflow
  deriving DecidableEq, Repr

/-- The code written to ERR.KIND (R231). -/
def ErrKind.code : ErrKind → Byte
  | .protocolViolation => 1
  | .checksumMismatch => 2
  | .signatureMismatch => 3
  | .missingSignatureTag => 4
  | .sampleSizeMismatch => 5
  | .valueTooLarge => 6
  | .unsupportedType => 7
  | .outOfBounds => 8
  | .illegalCommand => 9
  | .badArgument => 10
  | .lengthOverflow => 11

/-- The reasons (R232); `none` is the reason 0 of every kind that has no reasons. -/
inductive Reason where
  | none
  | unexpectedTag | lengthTooShort | unsupportedSessionType | invalidSessionHeader | unsupportedPayloadType
  | unsupportedSecurityAlgorithm | unsupportedSignatureAlgorithm | emptyAsduSequence | unknownFormat
  | unknownFrameType | badFrameLength | truncated | wrongFrameType | bufferTooShort | frameExceedsBuffer
  | reservedBits | unknownOpcode
  deriving DecidableEq, Repr

/-- The code written to ERR.REASON (R232). -/
def Reason.code : Reason → Byte
  | .none => 0
  | .unexpectedTag => 1
  | .lengthTooShort => 2
  | .unsupportedSessionType => 3
  | .invalidSessionHeader => 4
  | .unsupportedPayloadType => 5
  | .unsupportedSecurityAlgorithm => 6
  | .unsupportedSignatureAlgorithm => 7
  | .emptyAsduSequence => 8
  | .unknownFormat => 9
  | .unknownFrameType => 10
  | .badFrameLength => 11
  | .truncated => 12
  | .wrongFrameType => 13
  | .bufferTooShort => 14
  | .frameExceedsBuffer => 15
  | .reservedBits => 1
  | .unknownOpcode => 2

/-- An error: `Kind(Reason, info)` (00_scope.md R11). -/
structure CmdError where
  kind : ErrKind
  reason : Reason
  info : Byte
  deriving DecidableEq, Repr

/-- The value written to ERR: (INFO << 16) | (REASON << 8) | KIND (R236). -/
def CmdError.word (e : CmdError) : BitVec 24 := e.info ++ e.reason.code ++ e.kind.code

/-- ProtocolViolation(reason, info). -/
def CmdError.protocol (r : Reason) (info : Byte) : CmdError := ⟨.protocolViolation, r, info⟩

/-- An error kind with reason 0 and information 0 (R232, R233). -/
def CmdError.plain (k : ErrKind) : CmdError := ⟨k, .none, 0⟩

/-- The two ways a command ends without completing: `need n`, or an error (00_scope.md R11). -/
inductive Stop where
  | need (n : Nat)
  | raise (e : CmdError)
  deriving DecidableEq, Repr

/-- `if p: raise e`, one line of the rules' pseudocode; a raise inside a helper ends the whole command (R11). -/
def raiseIf (p : Prop) [Decidable p] (e : CmdError) : Except Stop Unit :=
  if p then .error (.raise e) else .ok ()

/-- `if p: need n`, one line of the rules' pseudocode (43_header.md R197). -/
def needIf (p : Prop) [Decidable p] (n : Nat) : Except Stop Unit :=
  if p then .error (.need n) else .ok ()

end Sys2Proof.Machine
end

