-- ==== Sys2Proof/Machine/Flags.lean ====
section
/-! DEFINITION. The fields of the two registers that hold flags: STATUS (10_state.md R27) and CONFIG (R30). -/

namespace Sys2Proof.Machine

/-- STATUS with the given fields: HDRLEN_VALID bit 3, SIGFAIL bit 2, RES bits 1:0 (R27). -/
def statusOf (hdrLenValid sigFail : Bool) (res : BitVec 2) : BitVec 4 :=
  BitVec.ofBool hdrLenValid ++ BitVec.ofBool sigFail ++ res

/-- STATUS.RES: 0 OK, 1 NEED_MORE, 2 ERROR (R27). -/
def State.res (s : State) : BitVec 2 := s.status.extractLsb' 0 2

/-- STATUS.SIGFAIL (R27). -/
def State.sigFail (s : State) : Bool := s.status.getLsbD 2

/-- STATUS.HDRLEN_VALID, the internal flag of R22 (R27). -/
def State.hdrLenValid (s : State) : Bool := s.status.getLsbD 3

/-- RES of the OK outcome (R27). -/
def resOk : BitVec 2 := 0
/-- RES of the `need` outcome (R27). -/
def resNeedMore : BitVec 2 := 1
/-- RES of an error (R27). -/
def resError : BitVec 2 := 2

/-- s with STATUS.RES replaced. -/
def State.setRes (s : State) (r : BitVec 2) : State :=
  { s with status := statusOf s.hdrLenValid s.sigFail r }

/-- s with STATUS.SIGFAIL replaced. -/
def State.setSigFail (s : State) (b : Bool) : State :=
  { s with status := statusOf s.hdrLenValid b s.res }

/-- s with STATUS.HDRLEN_VALID replaced. -/
def State.setHdrLenValid (s : State) (b : Bool) : State :=
  { s with status := statusOf b s.sigFail s.res }

/-- CONFIG.IGNORE_SIG (R30). -/
def State.ignoreSig (s : State) : Bool := s.config.getLsbD 0
/-- CONFIG.IGNORE_SS: stored, no effect inside the block (R30). -/
def State.ignoreSs (s : State) : Bool := s.config.getLsbD 1
/-- CONFIG.USE_ETR: stored, no effect inside the block (R30). -/
def State.useEtr (s : State) : Bool := s.config.getLsbD 2
/-- CONFIG.GUESS_CFG: stored, no effect inside the block (R30). -/
def State.guessCfg (s : State) : Bool := s.config.getLsbD 3
/-- CONFIG.PARSE_REDUNDANT: stored, no effect inside the block (R30). -/
def State.parseRedundant (s : State) : Bool := s.config.getLsbD 4
/-- CONFIG.ANGLE_FMT: stored, no effect inside the block (R30). -/
def State.angleFmt (s : State) : Bool := s.config.getLsbD 5

end Sys2Proof.Machine
end

