-- ==== Sys2Proof/Machine/Ops.lean ====
section
/-! DEFINITION. The named operations over memory (00_scope.md R10, R13; 20_memory.md R61) and the one operation
every command ends in: its outcome (60_exceptions.md R236). An error is the block's exception: the same operation
takes it for every command. There is no return from one (R240). -/

namespace Sys2Proof.Machine

/-! ## BUF as a list of written bytes -/

/-- BUF's bytes written since the last reset, by offset. -/
abbrev Memory := List Host.Cell

/-- What an offset holds: `none` for an offset nothing has written since the last reset. -/
def Memory.read : Memory → Nat → Option Byte
  | [], _ => none
  | (k, b) :: m, a => if k = a then some b else Memory.read m a

/-- m with byte b at offset a. -/
def Memory.write : Memory → Nat → Byte → Memory
  | [], a, b => [(a, b)]
  | (k, v) :: m, a, b =>
    if a < k then (a, b) :: (k, v) :: m
    else if a = k then (a, b) :: m
    else (k, v) :: Memory.write m a b

/-- The canonical form: offsets strictly rising. A listed entry is always different from what an unlisted offset
reads as, which is no value at all, so equal contents are equal lists (log 4). -/
abbrev Memory.wf (m : Memory) : Prop := m.Pairwise (fun c d => c.1 < d.1)

/-- Every listed offset exists in a buffer of the given size (10_state.md R60). -/
abbrev Memory.inRange (size : Nat) (m : Memory) : Prop := ∀ c ∈ m, c.1 < size

/-- m with a byte string written from offset a upwards. -/
def Memory.writeBytes : Memory → Nat → List Byte → Memory
  | m, _, [] => m
  | m, a, b :: bs => Memory.writeBytes (Memory.write m a b) (a + 1) bs

/-- BUF[a] (R10). A byte nothing has written since the last reset holds its unspecified reset value, a free value
(10_state.md R60, 93 U1, log 4). -/
def State.byteAt (s : State) (a : Nat) : Byte :=
  (Memory.read s.buf a).getD (Config.bufReset s.resets a)

/-- Bytes(a, n) (R10). -/
def State.bytesAt (s : State) (a : Nat) : Nat → List Byte
  | 0 => []
  | n + 1 => s.byteAt a :: State.bytesAt s (a + 1) n

/-- s with a byte string written to BUF from offset a upwards. -/
def State.writeBytes (s : State) (a : Nat) (bs : List Byte) : State :=
  { s with buf := Memory.writeBytes s.buf a bs }

/-! ## Big-endian numbers (00_scope.md R10, R13; 20_memory.md R61, R62) -/

/-- The number a byte string stands for, the most significant byte first. -/
def beNat (bs : List Byte) : Nat := bs.foldl (fun acc b => acc * 256 + b.toNat) 0

/-- BE_n(v): the n low bytes of v, the most significant first (R13). -/
def beBytes : Nat → Nat → List Byte
  | 0, _ => []
  | n + 1, v => BitVec.ofNat 8 (v >>> (8 * n)) :: beBytes n v

/-- MemRead(a, n) (R10). -/
def State.memRead (s : State) (a n : Nat) : Nat := beNat (s.bytesAt a n)

/-- MemWrite(a, n, v) (R10). -/
def State.memWrite (s : State) (a n v : Nat) : State := s.writeBytes a (beBytes n v)

/-- MemCopy(d, s, n): every source byte is read before any byte is written (R10, 20_memory.md R78). -/
def State.memCopy (s : State) (d a n : Nat) : State := s.writeBytes d (s.bytesAt a n)

/-! ## Bounds (20_memory.md R64) -/

/-- InBuf(a, n), in exact arithmetic (R64). -/
abbrev InBuf (s : State) (a n : Nat) : Prop := a + n ≤ s.params.bufSize

/-- InWin(a, n) (R64). -/
abbrev InWin (s : State) (a n : Nat) : Prop := a + n ≤ s.lim.toNat ∧ InBuf s a n

/-! ## The outcome of a command (60_exceptions.md R236) -/

/-- At start: STATUS.SIGFAIL <- 0 (R236). -/
def State.begin (s : State) : State := s.setSigFail false

/-- OK: STATUS.RES <- 0 (R236). -/
def State.finishOk (s : State) : State := s.setRes resOk

/-- need n: STATUS.RES <- 1, NEED <- n, nothing else (R236). -/
def State.finishNeed (s : State) (n : Nat) : State :=
  { s with status := statusOf s.hdrLenValid s.sigFail resNeedMore, need := BitVec.ofNat 32 n }

/-- raise K(R, i): STATUS.RES <- 2, ERR <- (i << 16) | (R << 8) | K, nothing else (R236). -/
def State.finishError (s : State) (e : CmdError) : State :=
  { s with status := statusOf s.hdrLenValid s.sigFail resError, err := e.word }

/-- The state a command leaves, from the state before it and its rule's result (R236): a `need` or an error keeps
nothing of what the rule computed (R237). -/
def settle (s : State) : Except Stop State → State
  | .ok t => t.finishOk
  | .error (.need n) => s.begin.finishNeed n
  | .error (.raise e) => s.begin.finishError e

/-- A command as one atomic step (20_memory.md R70): SIGFAIL is cleared, the rule runs, the outcome is recorded.
It always completes (60_exceptions.md R239). -/
def runCommand (body : State → Except Stop State) (s : State) : Host.Outcome State Fault Refusal :=
  .next (settle s (body s.begin))

/-- A command word that is no command: IllegalCommand, before any other check (30_encoding.md R82). -/
def illegalCommand (e : DecodeError) (s : State) : Host.Outcome State Fault Refusal :=
  match e with
  | .reservedBits => .next (settle s (.error (.raise ⟨.illegalCommand, .reservedBits, 0⟩)))
  | .unknownOpcode opc => .next (settle s (.error (.raise ⟨.illegalCommand, .unknownOpcode, opc⟩)))

end Sys2Proof.Machine
end

