-- ==== Sys2Proof/Machine/Operands.lean ====
section
/-! DEFINITION. The operand forms of the commands: how a rule reads a value out of the CSRs (30_encoding.md R85).
A plain operand is the CSR's stored value as an exact natural number; the others are composed here. -/

namespace Sys2Proof.Machine

/-- The end of the TLV commands' window: min(LIM, BUF_SIZE) (40_tlv.md R102). -/
def State.winEnd (s : State) : Nat := min s.lim.toNat s.params.bufSize

/-- VAL = VAL_HI·2^32 + VAL_LO (10_state.md R35). -/
def State.val (s : State) : Nat := s.valHi.toNat * 2 ^ 32 + s.valLo.toNat

/-- s with VAL written, its high word to VAL_HI (R35). -/
def State.setVal (s : State) (v : Nat) : State :=
  { s with valLo := BitVec.ofNat 32 v, valHi := BitVec.ofNat 32 (v >>> 32) }

/-- Key byte i: bits 8(i mod 4)+7 : 8(i mod 4) of KEY(i div 4) (10_state.md R58). -/
def State.keyByte (s : State) (i : Nat) : Byte :=
  (s.key[i / 4]?.getD 0).extractLsb' (8 * (i % 4)) 8

/-- Key(): the first KEYLEN key bytes (41_checksum_signature.md R154). -/
def State.keyBytes (s : State) : List Byte := (List.range s.keyLen.toNat).map s.keyByte

/-- TQ.IND (10_state.md R45). -/
def State.tqInd (s : State) : BitVec 4 := s.tq.extractLsb' 0 4

/-- TQ.FLAGS (10_state.md R45). -/
def State.tqFlags (s : State) : BitVec 4 := s.tq.extractLsb' 4 4

end Sys2Proof.Machine
end

