-- ==== Sys2Proof/Machine/Tlv.lean ====
section
/-! DEFINITION. The TLV encoder/decoder (40_tlv.md): the helpers R102 to R111 and the sixteen commands. -/

namespace Sys2Proof.Machine

/-- OutOfBounds(0, 0) (60_exceptions.md R231). -/
def outOfBounds : CmdError := .plain .outOfBounds

/-! ## Helpers (R102 to R111) -/

/-- A decoded length header: the declared length and the offset after the header (R103). -/
structure LengthField where
  len : Nat
  next : Nat
  deriving DecidableEq, Repr

/-- ParseTagLength(c, end, E) (R103, and R104 for the other forms). -/
def parseTagLength (s : State) (c fin : Nat) (e : CmdError) : Except Stop LengthField := do
  raiseIf (c + 1 > fin) e
  let h0 := s.byteAt c
  if h0.getLsbD 7 = false then
    return ⟨h0.toNat, c + 1⟩
  else if h0.extractLsb' 0 7 = 1#7 then
    raiseIf (c + 2 > fin) e
    return ⟨s.memRead (c + 1) 1, c + 2⟩
  else if h0.extractLsb' 0 7 = 2#7 then
    raiseIf (c + 3 > fin) e
    return ⟨s.memRead (c + 1) 2, c + 3⟩
  else
    return ⟨0, c + 1⟩

/-- The bytes of LenHdr(n) for n ≤ 65535, always the minimal form (R105). -/
def lenHdrBytes (n : Nat) : List Byte :=
  if n ≤ 127 then [BitVec.ofNat 8 n]
  else if n ≤ 255 then [0x81, BitVec.ofNat 8 n]
  else 0x82 :: beBytes 2 n

/-- LenHdr(n) (R105). -/
def lenHdr (n : Nat) : Except Stop (List Byte) := do
  raiseIf (n > 65535) (.plain .valueTooLarge)
  return lenHdrBytes n

/-- ValidateTag(c, end, tag, E) (R107). -/
def validateTag (s : State) (c fin : Nat) (tag : Byte) (e : CmdError) : Except Stop LengthField := do
  raiseIf (c + 1 > fin) e
  raiseIf (s.byteAt c ≠ tag) (.protocol .unexpectedTag (s.byteAt c))
  parseTagLength s (c + 1) fin e

/-- A decoded scalar TLV: value, declared length, offset of the first value byte, offset after the value (R108). -/
structure ScalarTlv where
  value : Nat
  len : Nat
  start : Nat
  next : Nat
  deriving DecidableEq, Repr

/-- ParseScalar(c, end, tag, W, E) (R108). -/
def parseScalar (s : State) (c fin : Nat) (tag : Byte) (w : Nat) (e : CmdError) : Except Stop ScalarTlv := do
  let h ← validateTag s c fin tag e
  raiseIf (h.len < w) (.protocol .lengthTooShort (BitVec.ofNat 8 (min h.len 255)))
  raiseIf (h.next + h.len > fin) e
  return ⟨s.memRead h.next w, h.len, h.next, h.next + h.len⟩

/-- A decoded string TLV: declared length, offset of the first string byte, offset after the string (R109). -/
structure StringTlv where
  len : Nat
  start : Nat
  next : Nat
  deriving DecidableEq, Repr

/-- ParseString(c, end, tag, E) (R109). -/
def parseString (s : State) (c fin : Nat) (tag : Byte) (e : CmdError) : Except Stop StringTlv := do
  let h ← validateTag s c fin tag e
  raiseIf (h.next + h.len > fin) e
  return ⟨h.len, h.next, h.next + h.len⟩

/-- ScalarImage(tag, W, v) (R110). -/
def scalarImage (tag : Byte) (w v : Nat) : List Byte :=
  tag :: (lenHdrBytes w ++ beBytes w (v % 2 ^ (8 * w)))

/-- StringImage(tag, s) (R111). -/
def stringImage (tag : Byte) (bs : List Byte) : List Byte :=
  tag :: (lenHdrBytes bs.length ++ bs)

/-! ## The shared shapes of the commands -/

/-- Writes an image at CUR inside the window and moves CUR past it (R113, R121, R128). -/
def emitAtCur (s : State) (img : List Byte) : Except Stop State := do
  raiseIf (s.cur.toNat + img.length > s.winEnd) outOfBounds
  return { s.writeBytes s.cur.toNat img with cur := BitVec.ofNat 32 (s.cur.toNat + img.length) }

/-- The scalar parse of R115 with natural width w. -/
def parseScalarCommand (w : Nat) (tag : Byte) (s : State) : Except Stop State := do
  let v ← parseScalar s s.cur.toNat s.winEnd tag w outOfBounds
  return { s.setVal v.value with
    rlen := BitVec.ofNat 32 v.len, raddr := BitVec.ofNat 32 v.start, cur := BitVec.ofNat 32 v.next }

/-- The scalar encode of R121 with natural width w. -/
def encodeScalarCommand (w : Nat) (tag : Byte) (s : State) : Except Stop State :=
  emitAtCur s (scalarImage tag w s.val)

/-! ## Commands -/

/-- TLV.PLEN's rule (R112). -/
def plenBody (s : State) : Except Stop State := do
  let h ← parseTagLength s s.cur.toNat s.winEnd outOfBounds
  return { s with rlen := BitVec.ofNat 32 h.len, cur := BitVec.ofNat 32 h.next }

/-- TLV.PLEN (R112). -/
def execTlvPlen (s : State) : Host.Outcome State Fault Refusal := runCommand plenBody s

/-- TLV.ELEN's rule (R113). -/
def elenBody (s : State) : Except Stop State := do
  let h ← lenHdr s.len.toNat
  emitAtCur s h

/-- TLV.ELEN (R113). -/
def execTlvElen (s : State) : Host.Outcome State Fault Refusal := runCommand elenBody s

/-- TLV.VTAG's rule (R114). -/
def vtagBody (tag : Byte) (s : State) : Except Stop State := do
  let h ← validateTag s s.cur.toNat s.winEnd tag outOfBounds
  return { s with
    rlen := BitVec.ofNat 32 h.len, raddr := BitVec.ofNat 32 h.next, cur := BitVec.ofNat 32 h.next }

/-- TLV.VTAG (R114). -/
def execTlvVtag (tag : Byte) (s : State) : Host.Outcome State Fault Refusal := runCommand (vtagBody tag) s

/-- TLV.PBYTE (R115). -/
def execTlvPbyte (tag : Byte) (s : State) : Host.Outcome State Fault Refusal :=
  runCommand (parseScalarCommand 1 tag) s

/-- TLV.PU16 (R116). -/
def execTlvPu16 (tag : Byte) (s : State) : Host.Outcome State Fault Refusal :=
  runCommand (parseScalarCommand 2 tag) s

/-- TLV.PU24 (R117). -/
def execTlvPu24 (tag : Byte) (s : State) : Host.Outcome State Fault Refusal :=
  runCommand (parseScalarCommand 3 tag) s

/-- TLV.PU32 (R118). -/
def execTlvPu32 (tag : Byte) (s : State) : Host.Outcome State Fault Refusal :=
  runCommand (parseScalarCommand 4 tag) s

/-- TLV.PU64 (R119). -/
def execTlvPu64 (tag : Byte) (s : State) : Host.Outcome State Fault Refusal :=
  runCommand (parseScalarCommand 8 tag) s

/-- TLV.PSTR's rule (R120). -/
def pstrBody (tag : Byte) (s : State) : Except Stop State := do
  let h ← parseString s s.cur.toNat s.winEnd tag outOfBounds
  return { s with
    rlen := BitVec.ofNat 32 h.len, raddr := BitVec.ofNat 32 h.start, cur := BitVec.ofNat 32 h.next }

/-- TLV.PSTR (R120). -/
def execTlvPstr (tag : Byte) (s : State) : Host.Outcome State Fault Refusal := runCommand (pstrBody tag) s

/-- TLV.EBYTE (R121). -/
def execTlvEbyte (tag : Byte) (s : State) : Host.Outcome State Fault Refusal :=
  runCommand (encodeScalarCommand 1 tag) s

/-- TLV.EU16 (R122). -/
def execTlvEu16 (tag : Byte) (s : State) : Host.Outcome State Fault Refusal :=
  runCommand (encodeScalarCommand 2 tag) s

/-- TLV.EU24 (R123). -/
def execTlvEu24 (tag : Byte) (s : State) : Host.Outcome State Fault Refusal :=
  runCommand (encodeScalarCommand 3 tag) s

/-- TLV.EU32 (R124). -/
def execTlvEu32 (tag : Byte) (s : State) : Host.Outcome State Fault Refusal :=
  runCommand (encodeScalarCommand 4 tag) s

/-- TLV.EU64 (R125). -/
def execTlvEu64 (tag : Byte) (s : State) : Host.Outcome State Fault Refusal :=
  runCommand (encodeScalarCommand 8 tag) s

/-- TLV.ESTR's rule (R128). -/
def estrBody (tag : Byte) (s : State) : Except Stop State := do
  raiseIf (s.len.toNat > 65535) (.plain .valueTooLarge)
  raiseIf (¬ InBuf s s.src.toNat s.len.toNat) outOfBounds
  emitAtCur s (stringImage tag (s.bytesAt s.src.toNat s.len.toNat))

/-- TLV.ESTR (R128). -/
def execTlvEstr (tag : Byte) (s : State) : Host.Outcome State Fault Refusal := runCommand (estrBody tag) s

/-- TLV.EBOOL's rule: always UnsupportedType (R129). -/
def eboolBody (_ : State) : Except Stop State := .error (.raise (.plain .unsupportedType))

/-- TLV.EBOOL (R129). -/
def execTlvEbool (s : State) : Host.Outcome State Fault Refusal := runCommand eboolBody s

end Sys2Proof.Machine
end

