-- ==== Sys2Proof/Machine/Crc.lean ====
section
/-! DEFINITION. The CRC-CCITT checksum and its commands (41_checksum_signature.md R141 to R148). -/

namespace Sys2Proof.Machine

/-- One of the 8 shift steps of R141, with the polynomial CRC_POLY. -/
def crcShift (poly crc : BitVec 16) : BitVec 16 :=
  if crc.getLsbD 15 then (crc <<< 1) ^^^ poly else crc <<< 1

/-- One byte of R141: the byte enters at the top, then 8 shift steps. -/
def crcByte (poly crc : BitVec 16) (b : Byte) : BitVec 16 :=
  (crcShift poly)^[8] (crc ^^^ (b ++ 0#8))

/-- CRC16(s) (R141). -/
def crc16 (p : Params) (bs : List Byte) : BitVec 16 := bs.foldl (crcByte p.crcPoly) p.crcInit

/-- CRC.CALC's rule (R143). -/
def crcCalcBody (s : State) : Except Stop State := do
  raiseIf (¬ InBuf s s.src.toNat s.len.toNat) outOfBounds
  return { s with crc := crc16 s.params (s.bytesAt s.src.toNat s.len.toNat) }

/-- CRC.CALC (R143). -/
def execCrcCalc (s : State) : Host.Outcome State Fault Refusal := runCommand crcCalcBody s

/-- CRC.GEN's rule (R147); the trailer is big-endian after the span (R146). -/
def crcGenBody (s : State) : Except Stop State := do
  raiseIf (¬ InBuf s s.src.toNat (s.len.toNat + 2)) outOfBounds
  let c := crc16 s.params (s.bytesAt s.src.toNat s.len.toNat)
  return { s.memWrite (s.src.toNat + s.len.toNat) 2 c.toNat with crc := c }

/-- CRC.GEN (R147). -/
def execCrcGen (s : State) : Host.Outcome State Fault Refusal := runCommand crcGenBody s

/-- CRC.CHECK's rule (R148); no flag makes a mismatch ignorable (R145). -/
def crcCheckBody (s : State) : Except Stop State := do
  raiseIf (¬ InBuf s s.src.toNat (s.len.toNat + 2)) outOfBounds
  let c := crc16 s.params (s.bytesAt s.src.toNat s.len.toNat)
  raiseIf (s.memRead (s.src.toNat + s.len.toNat) 2 ≠ c.toNat) (.plain .checksumMismatch)
  return { s with crc := c }

/-- CRC.CHECK (R148). -/
def execCrcCheck (s : State) : Host.Outcome State Fault Refusal := runCommand crcCheckBody s

end Sys2Proof.Machine
end

