-- ==== Sys2Proof/Machine/Sha256.lean ====
section
/-! DEFINITION. HMAC-SHA256 (41_checksum_signature.md R156): HMAC of RFC 2104 over SHA-256 of FIPS 180-4. The spec
names both and prints neither; the constants and the padding are PRESUMED from those standards (log 8) and checked
against the spec's vector S1. -/

namespace Sys2Proof.Machine

/-! ## The constants, from the roots that define them (log 8) -/

/-- The bits of r below 2^n raised as far as the k-th power stays within x: the k-th root of x, rounded down, when r
is 0 and the root has at most n bits. -/
def rootBelow (k x : Nat) : Nat → Nat → Nat
  | 0, r => r
  | n + 1, r => rootBelow k x n (if (r + 2 ^ n) ^ k ≤ x then r + 2 ^ n else r)

/-- The first 32 bits of the fractional part of the k-th root of q, for a root below 2^6. -/
def rootWord (k q : Nat) : Word := BitVec.ofNat 32 (rootBelow k (q * 2 ^ (32 * k)) 38 0)

/-- The first 64 primes. -/
def shaPrimes : List Nat :=
  [2, 3, 5, 7, 11, 13, 17, 19] ++ [23, 29, 31, 37, 41, 43, 47, 53] ++
  [59, 61, 67, 71, 73, 79, 83, 89] ++ [97, 101, 103, 107, 109, 113, 127, 131] ++
  [137, 139, 149, 151, 157, 163, 167, 173] ++ [179, 181, 191, 193, 197, 199, 211, 223] ++
  [227, 229, 233, 239, 241, 251, 257, 263] ++ [269, 271, 277, 281, 283, 293, 307, 311]

/-- The 64 round constants: from the cube roots of the first 64 primes. -/
def shaK : List Word := shaPrimes.map (rootWord 3)

/-- The initial hash value, eight words: from the square roots of the first eight primes. -/
def shaInit : List Word := (shaPrimes.take 8).map (rootWord 2)

/-! ## Hashing: the hash value and the working words a to h are lists of eight words, a first -/

/-- The exclusive or of x rotated right by each amount. -/
def rotations (amounts : List Nat) (x : Word) : Word :=
  (amounts.map x.rotateRight).foldl (· ^^^ ·) 0

/-- The schedule's mix of rotations by m and n and a shift by k. -/
def shaMix (m n k : Nat) (x : Word) : Word := rotations [m, n] x ^^^ x >>> k

/-- Choice: the bits of y where x is 1, of z where x is 0. -/
def shaCh (x y z : Word) : Word := z ^^^ (x &&& (y ^^^ z))

/-- Majority: the bits at least two of the words have. -/
def shaMaj (x y z : Word) : Word := (y &&& z) ||| (x &&& (y ||| z))

/-- n further words of the message schedule, newest first. -/
def shaExpand : Nat → List Word → List Word
  | 0, ws => ws
  | n + 1, ws =>
    shaExpand n
      ((ws.getD 15 0 + shaMix 7 18 3 (ws.getD 14 0) + ws.getD 6 0 + shaMix 17 19 10 (ws.getD 1 0)) :: ws)

/-- The words of a byte string, big-endian. -/
def shaWords : List Byte → List Word
  | a :: b :: c :: d :: rest => (a ++ b ++ c ++ d) :: shaWords rest
  | _ => []

/-- The 64 words of a block's message schedule. -/
def shaSchedule (block : List Byte) : List Word := (shaExpand 48 (shaWords block).reverse).reverse

/-- One round, with the sum of the round's constant and schedule word: every working word moves one place, the last
one leaves, and the first and the fifth take the round's sums. -/
def shaRound (st : List Word) (kw : Word) : List Word :=
  let w := fun i => st.getD i 0
  let sum := kw + w 7 + shaCh (w 4) (w 5) (w 6) + rotations [6, 11, 25] (w 4)
  (sum + shaMaj (w 0) (w 1) (w 2) + rotations [2, 13, 22] (w 0)) :: w 0 :: w 1 :: w 2 ::
    (w 3 + sum) :: w 4 :: w 5 :: w 6 :: []

/-- The compression of one 64-byte block into the hash value. -/
def shaBlock (st : List Word) (block : List Byte) : List Word :=
  List.zipWith (· + ·) st ((List.zipWith (· + ·) shaK (shaSchedule block)).foldl shaRound st)

/-- The first n 64-byte blocks of a byte string. -/
def shaBlocks : Nat → List Byte → List (List Byte)
  | 0, _ => []
  | n + 1, bs => bs.take 64 :: shaBlocks n (bs.drop 64)

/-- The padded message: the byte 0x80, zeros, and the length in bits as 8 big-endian bytes. -/
def shaPad (m : List Byte) : List Byte :=
  m ++ 0x80 :: (List.replicate ((119 - m.length % 64) % 64) 0 ++ beBytes 8 (8 * m.length))

/-- The hash value as 32 bytes. -/
def shaDigest (st : List Word) : List Byte :=
  (List.range 8).flatMap fun i => beBytes 4 (st.getD i 0).toNat

/-- SHA256(m), 32 bytes (R156). -/
def sha256 (m : List Byte) : List Byte :=
  let p := shaPad m
  shaDigest ((shaBlocks (p.length / 64) p).foldl shaBlock shaInit)

/-- K0: the key, or its hash when it is longer than 64 bytes, padded with zero bytes to 64 (R156). -/
def hmacKey (k : List Byte) : List Byte :=
  let k0 := if k.length ≤ 64 then k else sha256 k
  k0 ++ List.replicate (64 - k0.length) 0

/-- HMAC_SHA256(k, m), 32 bytes (R156). -/
def hmacSha256 (k m : List Byte) : List Byte :=
  let k0 := hmacKey k
  sha256 (k0.map (· ^^^ 0x5C) ++ sha256 (k0.map (· ^^^ 0x36) ++ m))

end Sys2Proof.Machine
end

