-- ==== Sys2Proof/Machine/Signature.lean ====
section
/-! DEFINITION. Signature algorithms, the trailer, and the signature commands (41_checksum_signature.md R149 to
R164). -/

namespace Sys2Proof.Machine

/-- The six signature algorithms (R149). -/
inductive SigAlg where
  | none | aes64 | sha80 | sha128 | aes128 | sha256
  deriving DecidableEq, Repr

/-- The tiers of R150. -/
inductive SigTier where
  | sha | aes
  deriving DecidableEq, Repr

/-- The algorithm a code names; no algorithm when the code is not legal (R149, R152). -/
def sigAlgOf (p : Params) (code : Byte) : Option SigAlg :=
  if code = p.sigNone then some .none
  else if code = p.sigSha80 then some .sha80
  else if code = p.sigSha128 then some .sha128
  else if code = p.sigSha256 then some .sha256
  else if code = p.sigAes64 then some .aes64
  else if code = p.sigAes128 then some .aes128
  else Option.none

/-- T(alg), the trailer length in bytes: the one trailer table (R151). -/
def SigAlg.trailerLen : SigAlg → Nat
  | .none => 0
  | .aes64 => 9
  | .sha80 => 11
  | .sha128 => 17
  | .aes128 => 17
  | .sha256 => 33

/-- M = T - 1, the MAC length in bytes (R151). -/
def SigAlg.macLen (a : SigAlg) : Nat := a.trailerLen - 1

/-- The tier, by name; None belongs to no tier (R150). -/
def SigAlg.tier : SigAlg → Option SigTier
  | .none => Option.none
  | .aes64 => some .aes
  | .sha80 => some .sha
  | .sha128 => some .sha
  | .aes128 => some .aes
  | .sha256 => some .sha

/-- The legal algorithm of a code, or the error of R152. -/
def legalSigAlg (p : Params) (code : Byte) : Except Stop SigAlg :=
  match sigAlgOf p code with
  | some a => .ok a
  | Option.none => .error (.raise (.protocol .unsupportedSignatureAlgorithm code))

/-- The check of a security-algorithm code (R152, R207). -/
def checkSecAlg (p : Params) (code : Byte) : Except Stop Unit :=
  raiseIf (¬ code ∈ p.secCodes) (.protocol .unsupportedSecurityAlgorithm code)

/-- ComputeMAC(sig, k, m) (R155); no MAC for None. -/
def computeMac (alg : SigAlg) (k m : List Byte) : List Byte :=
  match alg.tier with
  | some .sha => (hmacSha256 k m).take alg.macLen
  | some .aes => (beBytes 16 (Config.macAes k m).toNat).take alg.macLen
  | Option.none => []

/-- A command that computes a MAC while KEYLEN > 64 raises BadArgument (R154). -/
def checkKeyLen (s : State) : Except Stop Unit := raiseIf (s.keyLen.toNat > 64) (.plain .badArgument)

/-- The MAC over the signed span of a frame at base b whose payload end is pe (R153, R155). -/
def frameMac (s : State) (b pe : Nat) (alg : SigAlg) : List Byte :=
  computeMac alg s.keyBytes (s.bytesAt (b + Config.sigSpanStart) (pe - Config.sigSpanStart))

/-- SigCheck(B, flen, sig): the SIGFAIL bit (R157, R158). -/
def sigCheck (s : State) (b flen : Nat) (alg : SigAlg) : Except Stop Bool :=
  if alg = .none then .ok false
  else do
    let pe := flen - alg.trailerLen
    raiseIf (s.byteAt (b + pe) ≠ Config.sigMarker) ⟨.missingSignatureTag, .none, s.byteAt (b + pe)⟩
    checkKeyLen s
    if frameMac s b pe alg = s.bytesAt (b + pe + 1) alg.macLen then return false
    else if s.ignoreSig then return true
    else .error (.raise (.plain .signatureMismatch))

/-- The common checks of SIG.GEN and SIG.VERIFY, in order (R159). -/
def sigOperands (s : State) : Except Stop SigAlg := do
  let alg ← legalSigAlg s.params s.sSigAlg
  raiseIf (s.len.toNat < Config.sigSpanStart + alg.trailerLen) (.plain .badArgument)
  raiseIf (¬ InBuf s s.src.toNat s.len.toNat) outOfBounds
  return alg

/-- SIG.GEN's rule (R160). -/
def sigGenBody (s : State) : Except Stop State := do
  let alg ← sigOperands s
  if alg = .none then return s
  else
    checkKeyLen s
    let pe := s.len.toNat - alg.trailerLen
    return s.writeBytes (s.src.toNat + pe) (Config.sigMarker :: frameMac s s.src.toNat pe alg)

/-- SIG.GEN (R160). -/
def execSigGen (s : State) : Host.Outcome State Fault Refusal := runCommand sigGenBody s

/-- SIG.VERIFY's rule (R161). -/
def sigVerifyBody (s : State) : Except Stop State := do
  let alg ← sigOperands s
  let sf ← sigCheck s s.src.toNat s.len.toNat alg
  return s.setSigFail sf

/-- SIG.VERIFY (R161). -/
def execSigVerify (s : State) : Host.Outcome State Fault Refusal := runCommand sigVerifyBody s

end Sys2Proof.Machine
end

