-- ==== Sys2Proof/Machine/Time.lean ====
section
/-! DEFINITION. The timestamp converter (42_time.md): the conversion functions R171 to R176 in exact arithmetic and
the five commands. -/

namespace Sys2Proof.Machine

/-- CheckTB (R171). -/
def checkTimebase (tb : Nat) : Except Stop Unit :=
  raiseIf (tb < 1 ∨ tb > Config.timebaseStd) (.plain .badArgument)

/-- CheckNS (R171). -/
def checkNanos (ns : Nat) : Except Stop Unit := raiseIf (ns ≥ Config.nsPerS) (.plain .badArgument)

/-- A wire time: seconds and fraction (R172). -/
structure WireTime where
  soc : Nat
  frac : Nat
  deriving DecidableEq, Repr

/-- An absolute timestamp: seconds and nanoseconds (10_state.md R43). -/
structure Timestamp where
  sec : Nat
  ns : Nat
  deriving DecidableEq, Repr

/-- Carry(sec, f, TB) (R173). -/
def carry (sec f tb : Nat) : WireTime :=
  if f = tb then ⟨(sec + 1) % 2 ^ 32, 0⟩ else ⟨sec, f⟩

/-- ToWire(sec, ns, TB) (R172). -/
def toWire (sec ns tb : Nat) : WireTime :=
  carry sec ((ns * tb + Config.nsPerS / 2) / Config.nsPerS) tb

/-- ToWireHP(sec, ns, TB, fps) for fps ≥ 1 (R174). -/
def toWireHp (sec ns tb fps : Nat) : WireTime :=
  let k := (ns * fps + Config.nsPerS / 2) / Config.nsPerS
  carry sec ((tb * k + fps / 2) / fps) tb

/-- The conversion of TIME.TOWIREHP and HDR.GENPLAIN: ToWire when no frame rate is known (R175). -/
def toWireAtRate (sec ns tb fps : Nat) : WireTime :=
  if fps = 0 then toWire sec ns tb else toWireHp sec ns tb fps

/-- FromWire(soc, fw, mask, TB) (R176). -/
def fromWire (soc : Nat) (fw mask : Word) (tb : Nat) : Timestamp :=
  let f := (fw &&& ~~~mask).toNat
  let t := (f * Config.nsPerS + tb / 2) / tb
  ⟨(soc + t / Config.nsPerS) % 2 ^ 32, t % Config.nsPerS⟩

/-- s with the wire time written to W_SOC and W_FRAC (R177). -/
def State.setWire (s : State) (w : WireTime) : State :=
  { s with wSoc := BitVec.ofNat 32 w.soc, wFrac := BitVec.ofNat 32 w.frac }

/-- s with the timestamp written to T_SEC and T_NS (R179). -/
def State.setTimestamp (s : State) (t : Timestamp) : State :=
  { s with tSec := BitVec.ofNat 32 t.sec, tNs := BitVec.ofNat 32 t.ns }

/-- TIME.TOWIRE's rule (R177). -/
def toWireBody (s : State) : Except Stop State := do
  checkTimebase s.timebase.toNat
  checkNanos s.tNs.toNat
  return s.setWire (toWire s.tSec.toNat s.tNs.toNat s.timebase.toNat)

/-- TIME.TOWIRE (R177). -/
def execTimeToWire (s : State) : Host.Outcome State Fault Refusal := runCommand toWireBody s

/-- TIME.TOWIREHP's rule (R178). -/
def toWireHpBody (s : State) : Except Stop State := do
  checkTimebase s.timebase.toNat
  checkNanos s.tNs.toNat
  return s.setWire (toWireAtRate s.tSec.toNat s.tNs.toNat s.timebase.toNat s.fps.toNat)

/-- TIME.TOWIREHP (R178). -/
def execTimeToWireHp (s : State) : Host.Outcome State Fault Refusal := runCommand toWireHpBody s

/-- TIME.FROMWIRE's rule (R179). -/
def fromWireBody (s : State) : Except Stop State := do
  checkTimebase s.timebase.toNat
  return s.setTimestamp (fromWire s.wSoc.toNat s.wFrac s.tqMask s.timebase.toNat)

/-- TIME.FROMWIRE (R179). -/
def execTimeFromWire (s : State) : Host.Outcome State Fault Refusal := runCommand fromWireBody s

/-- TIME.PACKRT's rule (R180). -/
def packRtBody (s : State) : Except Stop State :=
  .ok { s with valHi := s.wSoc, valLo := s.wFrac.extractLsb' 0 24 ++ s.tq }

/-- TIME.PACKRT (R180). -/
def execTimePackRt (s : State) : Host.Outcome State Fault Refusal := runCommand packRtBody s

/-- TIME.UNPACKRT's rule (R181). -/
def unpackRtBody (s : State) : Except Stop State :=
  .ok { s with
    wSoc := s.valHi, wFrac := 0#8 ++ s.valLo.extractLsb' 8 24, tq := s.valLo.extractLsb' 0 8 }

/-- TIME.UNPACKRT (R181). -/
def execTimeUnpackRt (s : State) : Host.Outcome State Fault Refusal := runCommand unpackRtBody s

end Sys2Proof.Machine
end

