-- ==== Sys2Proof/Machine/Header.lean ====
section
/-! DEFINITION. The frame-format detector, the header parser and the header generators (43_header.md). -/

namespace Sys2Proof.Machine

/-! ## Detection (R191 to R195) -/

/-- The two wire formats (R192). -/
inductive FrameFormat where
  | plain | session
  deriving DecidableEq, Repr

/-- The value a format has in H_FORMAT (10_state.md R46). -/
def FrameFormat.code : FrameFormat → BitVec 2
  | .plain => 1
  | .session => 2

/-- Detect(B, A) (R192, R193). -/
def detect (s : State) (b a : Nat) : Except Stop FrameFormat := do
  needIf (a < 2) 2
  if s.byteAt b = s.params.syncByte then return .plain
  else if s.byteAt (b + 1) = s.params.cltpTag then return .session
  else .error (.raise (.protocol .unknownFormat (s.byteAt b)))

/-- The first check of every decoding command: InBuf(B, A) (R191). -/
def checkAvailable (s : State) : Except Stop Unit :=
  raiseIf (¬ InBuf s s.src.toNat s.len.toNat) outOfBounds

/-- HDR.DETECT's rule (R194). -/
def hdrDetectBody (s : State) : Except Stop State := do
  checkAvailable s
  let fmt ← detect s s.src.toNat s.len.toNat
  return { s with hFormat := fmt.code }

/-- HDR.DETECT (R194). -/
def execHdrDetect (s : State) : Host.Outcome State Fault Refusal := runCommand hdrDetectBody s

/-! ## The plain frame (R199 to R206) -/

/-- The type code of byte 1: bits 6:4 (R202). -/
def typeCode (b1 : Byte) : BitVec 3 := b1.extractLsb' 4 3

/-- The version of byte 1: bits 3:0 (R202). -/
def versionCode (b1 : Byte) : BitVec 4 := b1.extractLsb' 0 4

/-- A type code that names a frame type (R202). -/
def legalFrameType (p : Params) (t : BitVec 3) : Bool := t == p.ftData || t == p.ftCfg || t == p.ftCmd

/-- The register writes of ParsePlain, from its id/soc/fw line on, for a frame at base b of length flen; the
caller has checked TIMEBASE (R203, R219). -/
def writePlainHeader (s : State) (b flen : Nat) : State :=
  let fw := BitVec.ofNat 32 (s.memRead (b + 10) 4)
  let t := fromWire (s.memRead (b + 6) 4) fw s.tqMask s.timebase.toNat
  { (s.setTimestamp t).setHdrLenValid true with
    hFormat := FrameFormat.plain.code
    hType := typeCode (s.byteAt (b + 1))
    hVersion := versionCode (s.byteAt (b + 1))
    hFrameLen := BitVec.ofNat 16 flen
    hIdCode := BitVec.ofNat 16 (s.memRead (b + 4) 2)
    hSoc := BitVec.ofNat 32 (s.memRead (b + 6) 4)
    hFracSec := fw
    tq := fw.extractLsb' 24 8
    hHdrLen := BitVec.ofNat 16 Config.plainHdrLen }

/-- ParsePlain(B, A) (R203); no CRC is checked (R204). -/
def parsePlain (s : State) (b a : Nat) : Except Stop State := do
  needIf (a < Config.plainHdrLen) Config.plainHdrLen
  raiseIf (legalFrameType s.params (typeCode (s.byteAt (b + 1))) = false)
    (.protocol .unknownFrameType (s.byteAt (b + 1)))
  let flen := s.memRead (b + 2) 2
  raiseIf (flen < Config.plainHdrLen) (.protocol .badFrameLength 0)
  raiseIf (¬ InBuf s b flen) (.plain .lengthOverflow)
  needIf (a < flen) flen
  checkTimebase s.timebase.toNat
  return writePlainHeader s b flen

/-- PlainImage (R206, R200 to R202). -/
def plainImage (p : Params) (tcode : BitVec 3) (ver : BitVec 4) (flen idCode : BitVec 16) (soc frac : Nat) (q : Byte) :
    List Byte :=
  [p.syncByte, 0#1 ++ tcode ++ ver] ++ beBytes 2 flen.toNat ++ beBytes 2 idCode.toNat ++
    beBytes 4 soc ++ beBytes 4 (q.toNat * 2 ^ 24 + frac)

/-! ## The session frame (R207 to R213) -/

/-- What ParseSession reads out of a session frame (R209, R210). -/
structure SessionHeader where
  cltp : Byte
  spdu : Nat
  pkt : Nat
  ver : Nat
  keyTime0 : Nat
  keyTime1 : Nat
  sec : Byte
  sig : Byte
  keyId : Nat
  payLen : Nat
  sim : Byte
  appId : Nat
  asduLen : Nat
  asduCount : Nat
  total : Nat
  hdrLen : Nat
  sigFail : Bool
  deriving DecidableEq, Repr

/-- rd(o, n): a field read that must end by the payload end pe (R209, R196). -/
def readField (s : State) (b pe o n : Nat) : Except Stop Nat := do
  raiseIf (o + n > pe) (.protocol .truncated 0)
  return s.memRead (b + o) n

/-- The total length of a session frame (R208). -/
def sessionTotal (cltp : Byte) (spdu : Nat) (alg : SigAlg) : Nat := cltp.toNat + spdu + 8 + alg.trailerLen

/-- The ASDU prefix of a session header, from offset 38: the count and the header length (R209). -/
def parseAsduPrefix (s : State) (b pe : Nat) : Except Stop (Nat × Nat) := do
  let e := CmdError.protocol .truncated 0
  let sv ← validateTag s (b + 38) (b + pe) s.params.tagSvPdu e
  let cnt ← parseScalar s sv.next (b + pe) s.params.tagAsduCount 1 e
  raiseIf (cnt.value = 0) (.protocol .emptyAsduSequence 0)
  let sq ← validateTag s cnt.next (b + pe) s.params.tagSeqAsdu e
  return (cnt.value, sq.next - b)

/-- ParseSession(B, A) (R209): the signature is checked over the whole frame before the payload fields are
interpreted (R212). -/
def parseSession (s : State) (b a : Nat) : Except Stop SessionHeader := do
  needIf (a < Config.sessionMin) Config.sessionMin
  let cltp := s.byteAt b
  raiseIf (s.byteAt (b + 2) ≠ Config.sessionTypeSv) (.protocol .unsupportedSessionType (s.byteAt (b + 2)))
  raiseIf (s.byteAt (b + 3) ≠ Config.sessionHeaderSize) (.protocol .invalidSessionHeader (s.byteAt (b + 3)))
  let spdu := s.memRead (b + 6) 4
  let sec := s.byteAt (b + 22)
  let sig := s.byteAt (b + 23)
  checkSecAlg s.params sec
  let alg ← legalSigAlg s.params sig
  let total := sessionTotal cltp spdu alg
  raiseIf (total > 65535 ∨ ¬ InBuf s b total) (.plain .lengthOverflow)
  needIf (a < total) total
  let pe := total - alg.trailerLen
  let keyId ← readField s b pe 24 4
  let payLen ← readField s b pe 28 4
  let sf ← sigCheck s b total alg
  let pt ← readField s b pe 32 1
  raiseIf (pt ≠ Config.payloadType.toNat) (.protocol .unsupportedPayloadType (BitVec.ofNat 8 pt))
  let sim ← readField s b pe 33 1
  let appId ← readField s b pe 34 2
  let asduLen ← readField s b pe 36 2
  let (cnt, hdrLen) ← parseAsduPrefix s b pe
  return {
    cltp := cltp, spdu := spdu, pkt := s.memRead (b + 10) 4, ver := s.memRead (b + 14) 2,
    keyTime0 := s.memRead (b + 16) 4, keyTime1 := s.memRead (b + 20) 2, sec := sec, sig := sig,
    keyId := keyId, payLen := payLen, sim := BitVec.ofNat 8 sim, appId := appId, asduLen := asduLen,
    asduCount := cnt, total := total, hdrLen := hdrLen, sigFail := sf }

/-- The register writes of a session parse (R214). -/
def writeSessionHeader (s : State) (h : SessionHeader) : State :=
  { (s.setHdrLenValid true).setSigFail h.sigFail with
    hFormat := FrameFormat.session.code
    hType := s.params.ftData
    hFrameLen := BitVec.ofNat 16 h.total
    hHdrLen := BitVec.ofNat 16 h.hdrLen
    sCltpLen := h.cltp
    sSpduLen := BitVec.ofNat 32 h.spdu
    sPktNum := BitVec.ofNat 32 h.pkt
    sVersion := BitVec.ofNat 16 h.ver
    sKeyTime0 := BitVec.ofNat 32 h.keyTime0
    sKeyTime1 := BitVec.ofNat 16 h.keyTime1
    sSecAlg := h.sec
    sSigAlg := h.sig
    sKeyId := BitVec.ofNat 32 h.keyId
    sPayLen := BitVec.ofNat 32 h.payLen
    sSim := h.sim
    sAppId := BitVec.ofNat 16 h.appId
    sAsduLen := BitVec.ofNat 16 h.asduLen
    sAsduCount := BitVec.ofNat 8 h.asduCount }

/-- HDR.PARSE's rule (R214). -/
def hdrParseBody (s : State) : Except Stop State := do
  checkAvailable s
  let fmt ← detect s s.src.toNat s.len.toNat
  match fmt with
  | .plain => parsePlain s s.src.toNat s.len.toNat
  | .session => do
    let h ← parseSession s s.src.toNat s.len.toNat
    return writeSessionHeader s h

/-- HDR.PARSE (R214). -/
def execHdrParse (s : State) : Host.Outcome State Fault Refusal := runCommand hdrParseBody s

/-! ## Generation (R215 to R218) -/

/-- HDR.GENPLAIN's rule (R215). -/
def hdrGenPlainBody (s : State) : Except Stop State := do
  raiseIf (¬ InBuf s s.src.toNat Config.plainHdrLen) outOfBounds
  raiseIf (legalFrameType s.params s.hType = false) (.protocol .unknownFrameType (s.hType.setWidth 8))
  raiseIf (s.hFrameLen.toNat < Config.plainHdrLen) (.plain .badArgument)
  checkTimebase s.timebase.toNat
  checkNanos s.tNs.toNat
  let w := toWireAtRate s.tSec.toNat s.tNs.toNat s.timebase.toNat s.fps.toNat
  let img := plainImage s.params s.hType s.hVersion s.hFrameLen s.hIdCode w.soc w.frac s.tq
  return { (s.writeBytes s.src.toNat img).setHdrLenValid true with
    hSoc := BitVec.ofNat 32 w.soc
    hFracSec := BitVec.ofNat 32 (s.tq.toNat * 2 ^ 24 + w.frac)
    hHdrLen := BitVec.ofNat 16 Config.plainHdrLen
    hFormat := FrameFormat.plain.code }

/-- HDR.GENPLAIN (R215). -/
def execHdrGenPlain (s : State) : Host.Outcome State Fault Refusal := runCommand hdrGenPlainBody s

/-- What GenSession computes (R216). -/
structure SessionImage where
  image : List Byte
  hdrLen : Nat
  total : Nat
  spdu : Nat
  payLen : Nat
  asduLen : Nat
  deriving DecidableEq, Repr

/-- The AsduCount TLV of a generated header (R216). -/
def countTlv (p : Params) (cnt : Byte) : List Byte := [p.tagAsduCount, 1, cnt]

/-- The SequenceOfAsdu tag and length header for a body of l bytes (R216). -/
def seqHeader (p : Params) (l : Nat) : List Byte := p.tagSeqAsdu :: lenHdrBytes l

/-- The length the SvPdu TLV declares for a body of l bytes (R216). -/
def svInner (p : Params) (l : Nat) : Nat := 3 + (seqHeader p l).length + l

/-- The SvPdu tag and length header for a body of l bytes (R216). -/
def svHeader (p : Params) (l : Nat) : List Byte := p.tagSvPdu :: lenHdrBytes (svInner p l)

/-- The header length for a body of l bytes (R216). -/
def genHdrLen (p : Params) (l : Nat) : Nat := 38 + (svHeader p l).length + 3 + (seqHeader p l).length

/-- The bytes of a generated session header (R216, layout R210). -/
def sessionImage (s : State) (spdu payLen asduLen : Nat) : List Byte :=
  [s.sCltpLen, s.params.cltpTag, Config.sessionTypeSv, Config.sessionHeaderSize, s.params.rsv0, s.params.rsv1] ++
    beBytes 4 spdu ++ beBytes 4 s.sPktNum.toNat ++ beBytes 2 Config.sessionVersion.toNat ++
    beBytes 4 s.sKeyTime0.toNat ++ beBytes 2 s.sKeyTime1.toNat ++ [s.sSecAlg, s.sSigAlg] ++
    beBytes 4 s.sKeyId.toNat ++ beBytes 4 payLen ++ [Config.payloadType, s.sSim] ++
    beBytes 2 s.sAppId.toNat ++ beBytes 2 asduLen ++ svHeader s.params s.sBodyLen.toNat ++
    countTlv s.params s.sAsduCount ++ seqHeader s.params s.sBodyLen.toNat

/-- GenSession() (R216). -/
def genSession (s : State) : Except Stop SessionImage := do
  checkSecAlg s.params s.sSecAlg
  let alg ← legalSigAlg s.params s.sSigAlg
  raiseIf (s.sAsduCount = 0) (.protocol .emptyAsduSequence 0)
  let l := s.sBodyLen.toNat
  raiseIf (l > 65535) (.plain .valueTooLarge)
  raiseIf (svInner s.params l > 65535) (.plain .valueTooLarge)
  let total := genHdrLen s.params l + l + alg.trailerLen
  raiseIf (total > 65535) (.plain .lengthOverflow)
  raiseIf (total < s.sCltpLen.toNat + 8 + alg.trailerLen) (.plain .badArgument)
  let spdu := total - s.sCltpLen.toNat - 8 - alg.trailerLen
  let payLen := total - alg.trailerLen - 32
  let asduLen := total - alg.trailerLen - 38
  return ⟨sessionImage s spdu payLen asduLen, genHdrLen s.params l, total, spdu, payLen, asduLen⟩

/-- HDR.GENSESSION's rule (R217). -/
def hdrGenSessionBody (s : State) : Except Stop State := do
  let g ← genSession s
  raiseIf (¬ InBuf s s.src.toNat g.total) outOfBounds
  return { (s.writeBytes s.src.toNat g.image).setHdrLenValid true with
    sSpduLen := BitVec.ofNat 32 g.spdu
    sVersion := Config.sessionVersion
    sPayLen := BitVec.ofNat 32 g.payLen
    sAsduLen := BitVec.ofNat 16 g.asduLen
    hFrameLen := BitVec.ofNat 16 g.total
    hHdrLen := BitVec.ofNat 16 g.hdrLen
    hFormat := FrameFormat.session.code
    hType := s.params.ftData }

/-- HDR.GENSESSION (R217). -/
def execHdrGenSession (s : State) : Host.Outcome State Fault Refusal := runCommand hdrGenSessionBody s

/-! ## Command frames (R219) -/

/-- HDR.CMDCHECK's rule (R219); it has no `need` outcome. -/
def hdrCmdCheckBody (s : State) : Except Stop State := do
  checkAvailable s
  let b := s.src.toNat
  raiseIf (s.len.toNat < Config.plainHdrLen) (.protocol .bufferTooShort 0)
  raiseIf (s.byteAt b ≠ s.params.syncByte) (.protocol .unknownFormat (s.byteAt b))
  raiseIf (typeCode (s.byteAt (b + 1)) ≠ s.params.ftCmd) (.protocol .wrongFrameType (s.byteAt (b + 1)))
  let flen := s.memRead (b + 2) 2
  raiseIf (flen > s.len.toNat) (.protocol .frameExceedsBuffer 0)
  raiseIf (flen < 16) (.protocol .badFrameLength 0)
  let c := crc16 s.params (s.bytesAt b (flen - 2))
  raiseIf (s.memRead (b + flen - 2) 2 ≠ c.toNat) (.plain .checksumMismatch)
  checkTimebase s.timebase.toNat
  return { writePlainHeader s b flen with crc := c }

/-- HDR.CMDCHECK (R219). -/
def execHdrCmdCheck (s : State) : Host.Outcome State Fault Refusal := runCommand hdrCmdCheckBody s

end Sys2Proof.Machine
end

