-- ==== Sys2Proof/Machine/Dispatch.lean ====
section
/-! DEFINITION. Which meaning each command has: one arm per constructor of Instr, one direct call each. -/

namespace Sys2Proof.Machine

def exec (i : Instr) (s : State) : Host.Outcome State Fault Refusal :=
  match i with
  | .tlvPlen => Sys2Proof.Machine.execTlvPlen s
  | .tlvElen => Sys2Proof.Machine.execTlvElen s
  | .tlvVtag tag => Sys2Proof.Machine.execTlvVtag tag s
  | .tlvPbyte tag => Sys2Proof.Machine.execTlvPbyte tag s
  | .tlvPu16 tag => Sys2Proof.Machine.execTlvPu16 tag s
  | .tlvPu24 tag => Sys2Proof.Machine.execTlvPu24 tag s
  | .tlvPu32 tag => Sys2Proof.Machine.execTlvPu32 tag s
  | .tlvPu64 tag => Sys2Proof.Machine.execTlvPu64 tag s
  | .tlvPstr tag => Sys2Proof.Machine.execTlvPstr tag s
  | .tlvEbyte tag => Sys2Proof.Machine.execTlvEbyte tag s
  | .tlvEu16 tag => Sys2Proof.Machine.execTlvEu16 tag s
  | .tlvEu24 tag => Sys2Proof.Machine.execTlvEu24 tag s
  | .tlvEu32 tag => Sys2Proof.Machine.execTlvEu32 tag s
  | .tlvEu64 tag => Sys2Proof.Machine.execTlvEu64 tag s
  | .tlvEstr tag => Sys2Proof.Machine.execTlvEstr tag s
  | .tlvEbool => Sys2Proof.Machine.execTlvEbool s
  | .crcCalc => Sys2Proof.Machine.execCrcCalc s
  | .crcGen => Sys2Proof.Machine.execCrcGen s
  | .crcCheck => Sys2Proof.Machine.execCrcCheck s
  | .sigGen => Sys2Proof.Machine.execSigGen s
  | .sigVerify => Sys2Proof.Machine.execSigVerify s
  | .timeToWire => Sys2Proof.Machine.execTimeToWire s
  | .timeToWireHp => Sys2Proof.Machine.execTimeToWireHp s
  | .timeFromWire => Sys2Proof.Machine.execTimeFromWire s
  | .timePackRt => Sys2Proof.Machine.execTimePackRt s
  | .timeUnpackRt => Sys2Proof.Machine.execTimeUnpackRt s
  | .hdrDetect => Sys2Proof.Machine.execHdrDetect s
  | .hdrParse => Sys2Proof.Machine.execHdrParse s
  | .hdrGenPlain => Sys2Proof.Machine.execHdrGenPlain s
  | .hdrGenSession => Sys2Proof.Machine.execHdrGenSession s
  | .hdrCmdCheck => Sys2Proof.Machine.execHdrCmdCheck s

end Sys2Proof.Machine
end

