-- ==== Sys2Proof/Machine/Csr.lean ====
section
/-! DEFINITION. The CSR file as the host sees it (10_state.md R25): the map, the widths, the access kinds, and the
one read and the one write of a CSR. -/

namespace Sys2Proof.Machine

/-- A CSR of the map of R25; every reserved offset is the one register `reserved` (R59). -/
inductive Csr where
  /-- CMD, offset 0x000. -/
  | cmd
  /-- STATUS, offset 0x004. -/
  | status
  /-- ERR, offset 0x008. -/
  | err
  /-- NEED, offset 0x00C. -/
  | need
  /-- CONFIG, offset 0x010. -/
  | config
  /-- CUR, offset 0x014. -/
  | cur
  /-- LIM, offset 0x018. -/
  | lim
  /-- SRC, offset 0x01C. -/
  | src
  /-- LEN, offset 0x020. -/
  | len
  /-- VAL_LO, offset 0x024. -/
  | valLo
  /-- VAL_HI, offset 0x028. -/
  | valHi
  /-- RLEN, offset 0x02C. -/
  | rlen
  /-- RADDR, offset 0x030. -/
  | raddr
  /-- CRC, offset 0x034. -/
  | crc
  /-- TIMEBASE, offset 0x038. -/
  | timebase
  /-- FPS, offset 0x03C. -/
  | fps
  /-- TQMASK, offset 0x040. -/
  | tqMask
  /-- T_SEC, offset 0x044. -/
  | tSec
  /-- T_NS, offset 0x048. -/
  | tNs
  /-- W_SOC, offset 0x04C. -/
  | wSoc
  /-- W_FRAC, offset 0x050. -/
  | wFrac
  /-- TQ, offset 0x054. -/
  | tq
  /-- H_FORMAT, offset 0x058. -/
  | hFormat
  /-- H_TYPE, offset 0x05C. -/
  | hType
  /-- H_VERSION, offset 0x060. -/
  | hVersion
  /-- H_FRAMELEN, offset 0x064. -/
  | hFrameLen
  /-- H_IDCODE, offset 0x068. -/
  | hIdCode
  /-- H_SOC, offset 0x06C. -/
  | hSoc
  /-- H_FRACSEC, offset 0x070. -/
  | hFracSec
  /-- H_HDRLEN, offset 0x074. -/
  | hHdrLen
  /-- LENGTH, offset 0x078. -/
  | length
  /-- S_CLTPLEN, offset 0x07C. -/
  | sCltpLen
  /-- S_SPDULEN, offset 0x080. -/
  | sSpduLen
  /-- S_PKTNUM, offset 0x084. -/
  | sPktNum
  /-- S_VERSION, offset 0x088. -/
  | sVersion
  /-- S_KEYTIME0, offset 0x08C. -/
  | sKeyTime0
  /-- S_KEYTIME1, offset 0x090. -/
  | sKeyTime1
  /-- S_SECALG, offset 0x094. -/
  | sSecAlg
  /-- S_SIGALG, offset 0x098. -/
  | sSigAlg
  /-- S_KEYID, offset 0x09C. -/
  | sKeyId
  /-- S_PAYLEN, offset 0x0A0. -/
  | sPayLen
  /-- S_SIM, offset 0x0A4. -/
  | sSim
  /-- S_APPID, offset 0x0A8. -/
  | sAppId
  /-- S_ASDULEN, offset 0x0AC. -/
  | sAsduLen
  /-- S_ASDUCOUNT, offset 0x0B0. -/
  | sAsduCount
  /-- S_BODYLEN, offset 0x0B4. -/
  | sBodyLen
  /-- S_TRAILLEN, offset 0x0B8. -/
  | sTrailLen
  /-- KEYLEN, offset 0x0BC. -/
  | keyLen
  /-- KEYk, offset 0x0C0 + 4k. -/
  | key (k : Fin 16)
  /-- A reserved offset, 0x100 to 0xFFF. -/
  | reserved
  deriving DecidableEq, Repr

/-- Who may do what with a CSR (R25). -/
inductive CsrAccess where
  | readWrite | readOnly | writeOnly
  deriving DecidableEq, Repr

/-- The CSR at an aligned offset of the 4 KiB window (R25). -/
def Csr.ofOffset (off : Nat) : Csr :=
  match off / 4 with
  | 0x00 => .cmd
  | 0x01 => .status
  | 0x02 => .err
  | 0x03 => .need
  | 0x04 => .config
  | 0x05 => .cur
  | 0x06 => .lim
  | 0x07 => .src
  | 0x08 => .len
  | 0x09 => .valLo
  | 0x0A => .valHi
  | 0x0B => .rlen
  | 0x0C => .raddr
  | 0x0D => .crc
  | 0x0E => .timebase
  | 0x0F => .fps
  | 0x10 => .tqMask
  | 0x11 => .tSec
  | 0x12 => .tNs
  | 0x13 => .wSoc
  | 0x14 => .wFrac
  | 0x15 => .tq
  | 0x16 => .hFormat
  | 0x17 => .hType
  | 0x18 => .hVersion
  | 0x19 => .hFrameLen
  | 0x1A => .hIdCode
  | 0x1B => .hSoc
  | 0x1C => .hFracSec
  | 0x1D => .hHdrLen
  | 0x1E => .length
  | 0x1F => .sCltpLen
  | 0x20 => .sSpduLen
  | 0x21 => .sPktNum
  | 0x22 => .sVersion
  | 0x23 => .sKeyTime0
  | 0x24 => .sKeyTime1
  | 0x25 => .sSecAlg
  | 0x26 => .sSigAlg
  | 0x27 => .sKeyId
  | 0x28 => .sPayLen
  | 0x29 => .sSim
  | 0x2A => .sAppId
  | 0x2B => .sAsduLen
  | 0x2C => .sAsduCount
  | 0x2D => .sBodyLen
  | 0x2E => .sTrailLen
  | 0x2F => .keyLen
  | k => if h : 48 ≤ k ∧ k < 64 then .key ⟨k - 48, by omega⟩ else .reserved

/-- The offset of a CSR, column "offset" of R25; 0x100 for the reserved ones. -/
def Csr.offset : Csr → Nat
  | .cmd => 0x000
  | .status => 0x004
  | .err => 0x008
  | .need => 0x00C
  | .config => 0x010
  | .cur => 0x014
  | .lim => 0x018
  | .src => 0x01C
  | .len => 0x020
  | .valLo => 0x024
  | .valHi => 0x028
  | .rlen => 0x02C
  | .raddr => 0x030
  | .crc => 0x034
  | .timebase => 0x038
  | .fps => 0x03C
  | .tqMask => 0x040
  | .tSec => 0x044
  | .tNs => 0x048
  | .wSoc => 0x04C
  | .wFrac => 0x050
  | .tq => 0x054
  | .hFormat => 0x058
  | .hType => 0x05C
  | .hVersion => 0x060
  | .hFrameLen => 0x064
  | .hIdCode => 0x068
  | .hSoc => 0x06C
  | .hFracSec => 0x070
  | .hHdrLen => 0x074
  | .length => 0x078
  | .sCltpLen => 0x07C
  | .sSpduLen => 0x080
  | .sPktNum => 0x084
  | .sVersion => 0x088
  | .sKeyTime0 => 0x08C
  | .sKeyTime1 => 0x090
  | .sSecAlg => 0x094
  | .sSigAlg => 0x098
  | .sKeyId => 0x09C
  | .sPayLen => 0x0A0
  | .sSim => 0x0A4
  | .sAppId => 0x0A8
  | .sAsduLen => 0x0AC
  | .sAsduCount => 0x0B0
  | .sBodyLen => 0x0B4
  | .sTrailLen => 0x0B8
  | .keyLen => 0x0BC
  | .key k => 0x0C0 + 4 * k.val
  | .reserved => 0x100

/-- How many low bits a CSR stores, column "width" of R25; a reserved offset stores none. -/
def Csr.width : Csr → Nat
  | .cmd => 32
  | .status => 4
  | .err => 24
  | .need => 32
  | .config => 6
  | .cur => 32
  | .lim => 32
  | .src => 32
  | .len => 32
  | .valLo => 32
  | .valHi => 32
  | .rlen => 32
  | .raddr => 32
  | .crc => 16
  | .timebase => 32
  | .fps => 16
  | .tqMask => 32
  | .tSec => 32
  | .tNs => 32
  | .wSoc => 32
  | .wFrac => 32
  | .tq => 8
  | .hFormat => 2
  | .hType => 3
  | .hVersion => 4
  | .hFrameLen => 16
  | .hIdCode => 16
  | .hSoc => 32
  | .hFracSec => 32
  | .hHdrLen => 16
  | .length => 16
  | .sCltpLen => 8
  | .sSpduLen => 32
  | .sPktNum => 32
  | .sVersion => 16
  | .sKeyTime0 => 32
  | .sKeyTime1 => 16
  | .sSecAlg => 8
  | .sSigAlg => 8
  | .sKeyId => 32
  | .sPayLen => 32
  | .sSim => 8
  | .sAppId => 16
  | .sAsduLen => 16
  | .sAsduCount => 8
  | .sBodyLen => 32
  | .sTrailLen => 32
  | .keyLen => 7
  | .key _ => 32
  | .reserved => 0

/-- Column "access" of R25; a reserved offset reads 0 and ignores writes (R59). -/
def Csr.access : Csr → CsrAccess
  | .cmd => .writeOnly
  | .status => .readOnly
  | .err => .readOnly
  | .need => .readOnly
  | .config => .readWrite
  | .cur => .readWrite
  | .lim => .readWrite
  | .src => .readWrite
  | .len => .readWrite
  | .valLo => .readWrite
  | .valHi => .readWrite
  | .rlen => .readOnly
  | .raddr => .readOnly
  | .crc => .readOnly
  | .timebase => .readWrite
  | .fps => .readWrite
  | .tqMask => .readWrite
  | .tSec => .readWrite
  | .tNs => .readWrite
  | .wSoc => .readWrite
  | .wFrac => .readWrite
  | .tq => .readWrite
  | .hFormat => .readWrite
  | .hType => .readWrite
  | .hVersion => .readWrite
  | .hFrameLen => .readWrite
  | .hIdCode => .readWrite
  | .hSoc => .readWrite
  | .hFracSec => .readWrite
  | .hHdrLen => .readOnly
  | .length => .readOnly
  | .sCltpLen => .readWrite
  | .sSpduLen => .readWrite
  | .sPktNum => .readWrite
  | .sVersion => .readWrite
  | .sKeyTime0 => .readWrite
  | .sKeyTime1 => .readWrite
  | .sSecAlg => .readWrite
  | .sSigAlg => .readWrite
  | .sKeyId => .readWrite
  | .sPayLen => .readWrite
  | .sSim => .readWrite
  | .sAppId => .readWrite
  | .sAsduLen => .readWrite
  | .sAsduCount => .readWrite
  | .sBodyLen => .readWrite
  | .sTrailLen => .readOnly
  | .keyLen => .readWrite
  | .key _ => .readWrite
  | .reserved => .readOnly

/-- LENGTH, computed on every read (R52). -/
def State.lengthValue (s : State) : BitVec 16 :=
  if s.hType ≠ s.params.ftData then BitVec.ofNat 16 Config.plainHdrLen
  else if s.hdrLenValid then s.hHdrLen
  else Config.defaultSessionHdrLen

/-- S_TRAILLEN, computed on every read (R56). -/
def State.trailLenValue (s : State) : Word :=
  match sigAlgOf s.params s.sSigAlg with
  | some a => BitVec.ofNat 32 a.trailerLen
  | Option.none => 0xFFFFFFFF

/-- What the host reads from a CSR: its stored low bits, the bits above them 0 (R25). -/
def Csr.read (s : State) : Csr → Word
  | .cmd => 0
  | .status => s.status.setWidth 32
  | .err => s.err.setWidth 32
  | .need => s.need
  | .config => s.config.setWidth 32
  | .cur => s.cur
  | .lim => s.lim
  | .src => s.src
  | .len => s.len
  | .valLo => s.valLo
  | .valHi => s.valHi
  | .rlen => s.rlen
  | .raddr => s.raddr
  | .crc => s.crc.setWidth 32
  | .timebase => s.timebase
  | .fps => s.fps.setWidth 32
  | .tqMask => s.tqMask
  | .tSec => s.tSec
  | .tNs => s.tNs
  | .wSoc => s.wSoc
  | .wFrac => s.wFrac
  | .tq => s.tq.setWidth 32
  | .hFormat => s.hFormat.setWidth 32
  | .hType => s.hType.setWidth 32
  | .hVersion => s.hVersion.setWidth 32
  | .hFrameLen => s.hFrameLen.setWidth 32
  | .hIdCode => s.hIdCode.setWidth 32
  | .hSoc => s.hSoc
  | .hFracSec => s.hFracSec
  | .hHdrLen => s.hHdrLen.setWidth 32
  | .length => s.lengthValue.setWidth 32
  | .sCltpLen => s.sCltpLen.setWidth 32
  | .sSpduLen => s.sSpduLen
  | .sPktNum => s.sPktNum
  | .sVersion => s.sVersion.setWidth 32
  | .sKeyTime0 => s.sKeyTime0
  | .sKeyTime1 => s.sKeyTime1.setWidth 32
  | .sSecAlg => s.sSecAlg.setWidth 32
  | .sSigAlg => s.sSigAlg.setWidth 32
  | .sKeyId => s.sKeyId
  | .sPayLen => s.sPayLen
  | .sSim => s.sSim.setWidth 32
  | .sAppId => s.sAppId.setWidth 32
  | .sAsduLen => s.sAsduLen.setWidth 32
  | .sAsduCount => s.sAsduCount.setWidth 32
  | .sBodyLen => s.sBodyLen
  | .sTrailLen => s.trailLenValue
  | .keyLen => s.keyLen.setWidth 32
  | .key k => s.key[k]
  | .reserved => 0

/-- A host write of a CSR other than CMD: a RW CSR stores the low bits of the word, a RO CSR and a reserved offset
ignore it (R25, R59; 20_memory.md R69). A write of CMD runs a command and is not a store; this operation leaves
the state as it is for CMD, which holds nothing (R26). -/
def Csr.write (s : State) (v : Word) : Csr → State
  | .cmd => s
  | .status => s
  | .err => s
  | .need => s
  | .config => { s with config := v.setWidth 6 }
  | .cur => { s with cur := v }
  | .lim => { s with lim := v }
  | .src => { s with src := v }
  | .len => { s with len := v }
  | .valLo => { s with valLo := v }
  | .valHi => { s with valHi := v }
  | .rlen => s
  | .raddr => s
  | .crc => s
  | .timebase => { s with timebase := v }
  | .fps => { s with fps := v.setWidth 16 }
  | .tqMask => { s with tqMask := v }
  | .tSec => { s with tSec := v }
  | .tNs => { s with tNs := v }
  | .wSoc => { s with wSoc := v }
  | .wFrac => { s with wFrac := v }
  | .tq => { s with tq := v.setWidth 8 }
  | .hFormat => { s with hFormat := v.setWidth 2 }
  | .hType => { s with hType := v.setWidth 3 }
  | .hVersion => { s with hVersion := v.setWidth 4 }
  | .hFrameLen => { s with hFrameLen := v.setWidth 16 }
  | .hIdCode => { s with hIdCode := v.setWidth 16 }
  | .hSoc => { s with hSoc := v }
  | .hFracSec => { s with hFracSec := v }
  | .hHdrLen => s
  | .length => s
  | .sCltpLen => { s with sCltpLen := v.setWidth 8 }
  | .sSpduLen => { s with sSpduLen := v }
  | .sPktNum => { s with sPktNum := v }
  | .sVersion => { s with sVersion := v.setWidth 16 }
  | .sKeyTime0 => { s with sKeyTime0 := v }
  | .sKeyTime1 => { s with sKeyTime1 := v.setWidth 16 }
  | .sSecAlg => { s with sSecAlg := v.setWidth 8 }
  | .sSigAlg => { s with sSigAlg := v.setWidth 8 }
  | .sKeyId => { s with sKeyId := v }
  | .sPayLen => { s with sPayLen := v }
  | .sSim => { s with sSim := v.setWidth 8 }
  | .sAppId => { s with sAppId := v.setWidth 16 }
  | .sAsduLen => { s with sAsduLen := v.setWidth 16 }
  | .sAsduCount => { s with sAsduCount := v.setWidth 8 }
  | .sBodyLen => { s with sBodyLen := v }
  | .sTrailLen => s
  | .keyLen => { s with keyLen := v.setWidth 7 }
  | .key k => { s with key := s.key.set k v }
  | .reserved => s

end Sys2Proof.Machine
end

