-- ==== Sys2Proof/Machine/HostBus.lean ====
section
/-! DEFINITION. The host's side of the block (20_memory.md R66, R69, R70, R74): which accesses exist, what a read
returns, what a write stores, and which write starts a command. -/

namespace Sys2Proof.Machine

/-- An access the model admits: a CSR access is one aligned 32-bit word of the 4 KiB window, a BUF access one byte
below BUF_SIZE (R66, R74). -/
def HostEvent.admitted (p : Params) : HostEvent → Bool
  | .read .csr off bytes => bytes == 4 && off % 4 == 0 && decide (off < 0x1000)
  | .write .csr off bytes _ => bytes == 4 && off % 4 == 0 && decide (off < 0x1000)
  | .read .buf off bytes => bytes == 1 && decide (off < p.bufSize)
  | .write .buf off bytes _ => bytes == 1 && decide (off < p.bufSize)
  | .platformReset => true

/-- Why an access that is not admitted has no step (R66). -/
def stuckReason (win : Window) (off bytes : Nat) : Fault :=
  match win with
  | .csr => if bytes = 4 ∧ off % 4 = 0 then .outsideCsrWindow else .stuckCsrAccess
  | .buf => .stuckBufAccess

/-- What an admitted host read returns (R66, R69). -/
def hostRead (s : State) (win : Window) (off : Nat) : Word :=
  match win with
  | .csr => (Csr.ofOffset off).read s
  | .buf => (s.byteAt off).setWidth 32

/-- What an admitted host write stores, a write of CMD aside (R69). -/
def hostStore (s : State) (win : Window) (off : Nat) (v : Word) : State :=
  match win with
  | .csr => (Csr.ofOffset off).write s v
  | .buf => s.writeBytes off [v.setWidth 8]

/-- The whole state at its reset values (70_reset_and_hazards.md R263). BUF is unspecified anew: the count of
resets gives its bytes other free values (log 4). The parameters, the host's own events and the value it read last
stay (log 12). -/
def platformResetState (s : State) : State :=
  { State.resetWith s.params with pending := s.pending, readData := s.readData, resets := s.resets + 1 }

/-- What one host event asks of the block. -/
inductive BusResult where
  /-- The event is over, and this is the state after it. -/
  | done (s : State)
  /-- A write of CMD: run the command this word encodes (10_state.md R26). -/
  | command (w : Word) (s : State)
  /-- The event has no step (R66). -/
  | stuck (f : Fault)
  deriving DecidableEq, Repr

/-- One host event, in a state whose queue no longer holds it. -/
def hostEvent (s : State) (ev : HostEvent) : BusResult :=
  match ev with
  | .platformReset => .done (platformResetState s)
  | .read win off bytes =>
    if (HostEvent.read win off bytes).admitted s.params then .done { s with readData := hostRead s win off }
    else .stuck (stuckReason win off bytes)
  | .write win off bytes v =>
    if (HostEvent.write win off bytes v).admitted s.params then
      if win = .csr ∧ Csr.ofOffset off = .cmd then .command v s
      else .done (hostStore s win off v)
    else .stuck (stuckReason win off bytes)

/-- The next thing the machine does: the oldest pending host event, taken off the queue (R71). With none pending
the block is idle and holds its state (60_exceptions.md R251, log 2). -/
def nextAction (s : State) : BusResult :=
  match s.pending with
  | [] => .done s
  | ev :: rest => hostEvent { s with pending := rest } ev

/-- The host write that starts the command a word encodes (10_state.md R26). -/
def cmdWrite (w : Word) : HostEvent := .write .csr 0 4 w

/-- The window and offset of a host address, where it lies in one (R74); the bases are OPEN (log 9). DESIGN CHOICE:
where the two ranges overlap, which R74 does not speak of, the address belongs to the CSR window (log 20). -/
def windowOf (p : Params) (addr : Nat) : Option (Window × Nat) :=
  if Config.csrBase ≤ addr ∧ addr < Config.csrBase + 0x1000 then some (.csr, addr - Config.csrBase)
  else if Config.bufBase ≤ addr ∧ addr < Config.bufBase + p.bufSize then some (.buf, addr - Config.bufBase)
  else none

end Sys2Proof.Machine
end

