-- ==== Sys2Proof/Machine/Step.lean ====
section
/-! DEFINITION. One step of the machine: the oldest pending host event, and with a write of CMD the whole command
it starts (20_memory.md R70, R71). -/

namespace Sys2Proof.Machine

/-- A CMD write of w: decode it, and run the command or raise IllegalCommand (30_encoding.md R82). -/
def runWord (w : Word) (s : State) : Host.Outcome State Fault Refusal :=
  match decode w with
  | .ok i => exec i s
  | .error e => illegalCommand e s

/-- One step. -/
def step (s : State) : Host.Outcome State Fault Refusal :=
  match nextAction s with
  | .done t => .next t
  | .command w t => runWord w t
  | .stuck f => .fault f

/-- s with a host write of w to CMD at the head of the queue: the block has no instruction memory, and the host
writes each command word to CMD (20_memory.md R75, log 1). Bits of w from nbits on are 0. -/
def State.withFetchWord (s : State) (nbits w : Nat) : State :=
  { s with pending := cmdWrite (BitVec.ofNat 32 (w % 2 ^ nbits)) :: s.pending }

end Sys2Proof.Machine
end

