-- ==== Sys2Proof/Safety.lean ====
section
/-! DEFINITION. The terms claims are stated in: the three outcomes of a command as states, the TLV header as the
table of R101 gives it, the legal states, the errors each command may raise, and a safe queue of host events. -/

namespace Sys2Proof

/-- The natural width and the tag of a scalar parse command: TLV.PBYTE, TLV.PU16, TLV.PU24, TLV.PU32, TLV.PU64
(R115 to R119). -/
def Instr.scalarParse? : Instr → Option (Nat × Byte)
  | .tlvPbyte t => some (1, t)
  | .tlvPu16 t => some (2, t)
  | .tlvPu24 t => some (3, t)
  | .tlvPu32 t => some (4, t)
  | .tlvPu64 t => some (8, t)
  | _ => none

/-- The natural width and the tag of a scalar encode command: TLV.EBYTE, TLV.EU16, TLV.EU24, TLV.EU32, TLV.EU64
(R121 to R125). -/
def Instr.scalarEncode? : Instr → Option (Nat × Byte)
  | .tlvEbyte t => some (1, t)
  | .tlvEu16 t => some (2, t)
  | .tlvEu24 t => some (3, t)
  | .tlvEu32 t => some (4, t)
  | .tlvEu64 t => some (8, t)
  | _ => none

end Sys2Proof

namespace Sys2Proof.Machine

/-! ## The three outcomes (60_exceptions.md R236) -/

/-- STATUS after a command that completes and leaves HDRLEN_VALID alone: RES OK, SIGFAIL cleared (R236). -/
def State.okStatus (s : State) : BitVec 4 := statusOf s.hdrLenValid false resOk

/-- The state a command leaves when it raises an error: STATUS and ERR, nothing else (R236, R237). -/
def State.errorState (s : State) (e : CmdError) : State :=
  { s with status := statusOf s.hdrLenValid false resError, err := e.word }

/-- The state a command leaves at `need n`: STATUS and NEED, nothing else (R236). -/
def State.needState (s : State) (n : Nat) : State :=
  { s with status := statusOf s.hdrLenValid false resNeedMore, need := BitVec.ofNat 32 n }

/-! ## The TLV length header, by the table of 40_tlv.md R101 -/

/-- Column "header bytes": how many bytes the length header at offset c takes. -/
def State.headerSize (s : State) (c : Nat) : Nat :=
  if s.byteAt c = 0x81 then 2 else if s.byteAt c = 0x82 then 3 else 1

/-- Column "declared length": what the length header at offset c declares. -/
def State.declaredLen (s : State) (c : Nat) : Nat :=
  if (s.byteAt c).toNat ≤ 0x7F then (s.byteAt c).toNat
  else if s.byteAt c = 0x81 then (s.byteAt (c + 1)).toNat
  else if s.byteAt c = 0x82 then (s.byteAt (c + 1)).toNat * 256 + (s.byteAt (c + 2)).toNat
  else 0

/-- The minimal length header for n ≤ 65535, spelled out byte by byte (R105). -/
def minimalHeader (n : Nat) : List Byte :=
  if n ≤ 127 then [BitVec.ofNat 8 n]
  else if n ≤ 255 then [0x81, BitVec.ofNat 8 n]
  else [0x82, BitVec.ofNat 8 (n / 256), BitVec.ofNat 8 (n % 256)]

/-- t's BUF is s's BUF with exactly the byte string bs stored from offset a upwards: the bytes read back, and every
byte outside them reads as before. -/
def StoresAt (s t : State) (a : Nat) (bs : List Byte) : Prop :=
  t.bytesAt a bs.length = bs ∧ ∀ x, (x < a ∨ a + bs.length ≤ x) → t.byteAt x = s.byteAt x

/-! ## Frames that a header parse accepts (43_header.md) -/

/-- The nanoseconds a fraction word stands for: the masked fraction times 10^9, divided by TB, rounded half up
(42_time.md R176). -/
def nanosOf (fw mask : Word) (tb : Nat) : Nat := ((fw &&& ~~~mask).toNat * 1000000000 + tb / 2) / tb

/-- The conditions under which ParsePlain completes on the frame at SRC, LEN bytes of it present, with frame
length flen (R203): available bytes in BUF, a legal type code, a frame length of at least the header that has
arrived, and a legal timebase. -/
structure PlainFrame (s : State) (flen : Nat) : Prop where
  inBuf : s.src.toNat + s.len.toNat ≤ s.params.bufSize
  header : 14 ≤ s.len.toNat
  sync : s.byteAt s.src.toNat = s.params.syncByte
  typeLegal : (s.byteAt (s.src.toNat + 1)).extractLsb' 4 3 ∈ [s.params.ftData, s.params.ftCfg, s.params.ftCmd]
  length : flen = s.memRead (s.src.toNat + 2) 2
  lengthLow : 14 ≤ flen
  arrived : flen ≤ s.len.toNat
  timebase : 1 ≤ s.timebase.toNat ∧ s.timebase.toNat ≤ 16777216

/-- The registers a plain header parse writes, for the frame at SRC of length flen (R203). -/
def State.withPlainHeader (s : State) (flen : Nat) : State :=
  let b := s.src.toNat
  let fw := BitVec.ofNat 32 (s.memRead (b + 10) 4)
  let t := nanosOf fw s.tqMask s.timebase.toNat
  { s with
    status := statusOf true false resOk
    hFormat := 1
    hType := (s.byteAt (b + 1)).extractLsb' 4 3
    hVersion := (s.byteAt (b + 1)).extractLsb' 0 4
    hFrameLen := BitVec.ofNat 16 flen
    hIdCode := BitVec.ofNat 16 (s.memRead (b + 4) 2)
    hSoc := BitVec.ofNat 32 (s.memRead (b + 6) 4)
    hFracSec := fw
    tq := fw.extractLsb' 24 8
    tSec := BitVec.ofNat 32 (s.memRead (b + 6) 4 + t / 1000000000)
    tNs := BitVec.ofNat 32 (t % 1000000000)
    hHdrLen := 14 }

/-- What R209 checks before it asks for the whole session frame of length total at SRC: 26 bytes present, the
format, the fixed bytes, the algorithm codes, and a length that the field and BUF can hold. -/
structure SessionStart (s : State) (alg : SigAlg) (total : Nat) : Prop where
  inBuf : s.src.toNat + s.len.toNat ≤ s.params.bufSize
  header : 26 ≤ s.len.toNat
  notPlain : s.byteAt s.src.toNat ≠ s.params.syncByte
  cltpTag : s.byteAt (s.src.toNat + 1) = s.params.cltpTag
  sessionType : s.byteAt (s.src.toNat + 2) = 0xA2
  headerSize : s.byteAt (s.src.toNat + 3) = 0x18
  secLegal : s.byteAt (s.src.toNat + 22) ∈ s.params.secCodes
  sigLegal : sigAlgOf s.params (s.byteAt (s.src.toNat + 23)) = some alg
  length : total = (s.byteAt s.src.toNat).toNat + s.memRead (s.src.toNat + 6) 4 + 8 + alg.trailerLen
  lengthLow : total ≤ 65535
  lengthInBuf : s.src.toNat + total ≤ s.params.bufSize

/-- The offset of the AsduCount TLV of the session frame at b: after the SvPdu tag and length header (R209). -/
def State.countAt (s : State) (b : Nat) : Nat := b + 39 + s.headerSize (b + 39)

/-- The offset of the count byte of the session frame at b (R209). -/
def State.countValueAt (s : State) (b : Nat) : Nat := s.countAt b + 1 + s.headerSize (s.countAt b + 1)

/-- The offset of the SequenceOfAsdu tag of the session frame at b (R209). -/
def State.seqAt (s : State) (b : Nat) : Nat := s.countValueAt b + s.declaredLen (s.countAt b + 1)

/-- The offset of the first ASDU body byte of the session frame at b (R209, R213). -/
def State.bodyAt (s : State) (b : Nat) : Nat := s.seqAt b + 1 + s.headerSize (s.seqAt b + 1)

/-- The error of the first failing check of the ASDU prefix of the session frame at b, whose payload ends before the
offset fin; no error when the prefix is accepted (R209 from ValidateTag at B + 38 on, with R103, R107, R108). -/
def State.asduPrefixError? (s : State) (b fin : Nat) : Option CmdError :=
  if fin < b + 39 then some (.protocol .truncated 0)
  else if s.byteAt (b + 38) ≠ s.params.tagSvPdu then some (.protocol .unexpectedTag (s.byteAt (b + 38)))
  else if fin < s.countAt b + 1 then some (.protocol .truncated 0)
  else if s.byteAt (s.countAt b) ≠ s.params.tagAsduCount then
    some (.protocol .unexpectedTag (s.byteAt (s.countAt b)))
  else if fin < s.countValueAt b then some (.protocol .truncated 0)
  else if s.declaredLen (s.countAt b + 1) = 0 then some (.protocol .lengthTooShort 0)
  else if fin < s.seqAt b then some (.protocol .truncated 0)
  else if s.byteAt (s.countValueAt b) = 0 then some (.protocol .emptyAsduSequence 0)
  else if fin < s.seqAt b + 1 then some (.protocol .truncated 0)
  else if s.byteAt (s.seqAt b) ≠ s.params.tagSeqAsdu then
    some (.protocol .unexpectedTag (s.byteAt (s.seqAt b)))
  else if fin < s.bodyAt b then some (.protocol .truncated 0)
  else none

/-- The MAC the block computes over the signed span [b + 2, b + pe) equals the bytes after the marker (R157). -/
abbrev MacMatches (s : State) (b pe : Nat) (alg : SigAlg) : Prop :=
  computeMac alg s.keyBytes (s.bytesAt (b + 2) (pe - 2)) = s.bytesAt (b + pe + 1) (alg.trailerLen - 1)

/-- The rest of what R209 asks of a session frame of length total: the whole frame present, an acceptable
signature, the payload type, and the ASDU prefix within the payload end. -/
structure SessionFrame (s : State) (alg : SigAlg) (total : Nat) : Prop extends SessionStart s alg total where
  arrived : total ≤ s.len.toNat
  signed : alg ≠ .none → s.byteAt (s.src.toNat + (total - alg.trailerLen)) = 0x85 ∧ s.keyLen.toNat ≤ 64 ∧
    (MacMatches s s.src.toNat (total - alg.trailerLen) alg ∨ s.config.getLsbD 0 = true)
  payloadType : s.byteAt (s.src.toNat + 32) = 0x82
  svTag : s.byteAt (s.src.toNat + 38) = s.params.tagSvPdu
  countTag : s.byteAt (s.countAt s.src.toNat) = s.params.tagAsduCount
  countLen : 1 ≤ s.declaredLen (s.countAt s.src.toNat + 1)
  countPos : s.byteAt (s.countValueAt s.src.toNat) ≠ 0
  seqTag : s.byteAt (s.seqAt s.src.toNat) = s.params.tagSeqAsdu
  inPayload : s.bodyAt s.src.toNat ≤ s.src.toNat + (total - alg.trailerLen)

/-! ## Errors (60_exceptions.md R231 to R234) -/

/-- ERR.KIND and ERR.REASON of a value of ERR (10_state.md R28). -/
def errCodes (e : BitVec 24) : Nat × Nat := ((e.extractLsb' 0 8).toNat, (e.extractLsb' 8 8).toNat)

/-- ERR.INFO of a value of ERR (10_state.md R28). -/
def errInfo (e : BitVec 24) : Byte := e.extractLsb' 16 8

/-- The kinds and reasons some command raises: R231 and R232 without the reserved kind 5 (R235). -/
def raisedCodes : List (Nat × Nat) :=
  [(1, 1), (1, 2), (1, 3), (1, 4), (1, 5), (1, 6), (1, 7), (1, 8), (1, 9), (1, 10), (1, 11), (1, 12), (1, 13),
   (1, 14), (1, 15)] ++ [(2, 0), (3, 0), (4, 0), (6, 0), (7, 0), (8, 0), (9, 1), (9, 2), (10, 0), (11, 0)]

/-- The kinds and reasons whose information byte names a byte or a length; every other one has INFO 0 (R233). -/
def namedInfoCodes : List (Nat × Nat) :=
  [(1, 1), (1, 2), (1, 3), (1, 4), (1, 5), (1, 6), (1, 7), (1, 9), (1, 10), (1, 13), (4, 0), (9, 2)]

/-- A value ERR can hold: the reset value, or an error of the tables R231 to R233. -/
def legalErr (e : BitVec 24) : Bool :=
  e == 0 || (raisedCodes.contains (errCodes e) && (namedInfoCodes.contains (errCodes e) || errInfo e == 0))

/-- The errors a command can raise once it is decoded: its row of the table R234, as KIND and REASON codes. -/
def errorsOf : Instr → List (Nat × Nat)
  | .tlvPlen => [(8, 0)]
  | .tlvElen => [(6, 0), (8, 0)]
  | .tlvVtag _ => [(8, 0), (1, 1)]
  | .tlvPbyte _ => [(8, 0), (1, 1), (1, 2)]
  | .tlvPu16 _ => [(8, 0), (1, 1), (1, 2)]
  | .tlvPu24 _ => [(8, 0), (1, 1), (1, 2)]
  | .tlvPu32 _ => [(8, 0), (1, 1), (1, 2)]
  | .tlvPu64 _ => [(8, 0), (1, 1), (1, 2)]
  | .tlvPstr _ => [(8, 0), (1, 1)]
  | .tlvEbyte _ => [(8, 0)]
  | .tlvEu16 _ => [(8, 0)]
  | .tlvEu24 _ => [(8, 0)]
  | .tlvEu32 _ => [(8, 0)]
  | .tlvEu64 _ => [(8, 0)]
  | .tlvEstr _ => [(6, 0), (8, 0)]
  | .tlvEbool => [(7, 0)]
  | .crcCalc => [(8, 0)]
  | .crcGen => [(8, 0)]
  | .crcCheck => [(8, 0), (2, 0)]
  | .sigGen => [(1, 7), (10, 0), (8, 0)]
  | .sigVerify => [(1, 7), (10, 0), (8, 0), (4, 0), (3, 0)]
  | .timeToWire => [(10, 0)]
  | .timeToWireHp => [(10, 0)]
  | .timeFromWire => [(10, 0)]
  | .timePackRt => []
  | .timeUnpackRt => []
  | .hdrDetect => [(8, 0), (1, 9)]
  | .hdrParse => [(8, 0), (1, 9), (1, 10), (1, 11), (11, 0), (10, 0), (1, 3), (1, 4), (1, 6), (1, 7), (1, 12), (4, 0),
      (3, 0), (1, 5), (1, 1), (1, 2), (1, 8)]
  | .hdrGenPlain => [(8, 0), (1, 10), (10, 0)]
  | .hdrGenSession => [(1, 6), (1, 7), (1, 8), (6, 0), (11, 0), (10, 0), (8, 0)]
  | .hdrCmdCheck => [(8, 0), (1, 14), (1, 9), (1, 13), (1, 15), (1, 11), (2, 0), (10, 0)]

/-! ## Legal states and safe queues -/

/-- What every step keeps: BUF in its canonical form and inside BUF_SIZE, the STATUS codes the block produces
(10_state.md R27, 93 U18), SIGFAIL only beside OK (R235, R236), H_HDRLEN tied to HDRLEN_VALID (R52), and ERR a value
of the error tables (R28, R231 to R233, 93 U17). -/
structure State.Legal (s : State) : Prop where
  bufCanonical : Memory.wf s.buf
  bufInRange : Memory.inRange s.params.bufSize s.buf
  resLegal : s.res ≠ 3
  sigFailOk : s.sigFail = true → s.res = resOk
  hdrLenReset : s.hdrLenValid = false → s.hHdrLen = 0
  hdrLenSet : s.hdrLenValid = true → 14 ≤ s.hHdrLen.toNat
  errLegal : legalErr s.err = true
  errRaised : s.res = resError → s.err ≠ 0

/-- A queue whose every access the model admits (20_memory.md R66): a safe run is one from such a queue. -/
def State.queueAdmitted (s : State) : Prop := ∀ ev ∈ s.pending, ev.admitted s.params = true

end Sys2Proof.Machine
end

