-- ==== Sys2Proof/Certificates/Slice0/Obligations.lean ====
section
/-! DEFINITION. The statements for the provers, one definition each, by family. In every result statement the next
state is written as a record update of the old one, so that it is the frame as well: what the update does not name
is unchanged. -/

open Sys2Proof Sys2Proof.Machine

/-! ## Encoding -/

/-- Decoding the word the assembler writes for a command gives the command back, with every tag (R81 to R84, R88). -/
def Obligations.DecodeInvertsEncode : Prop :=
  ∀ i : Instr, decode (encode i) = .ok i

/-- R83: TAG is an operand of exactly the commands 0x12 to 0x1E, and passes through unchanged; every other command
is selected whatever TAG holds. -/
def Obligations.TagIsAnOperandExactlyWhereListed : Prop :=
  (∀ i : Instr, i.tag?.isSome = true ↔ (0x12 ≤ i.opcode.toNat ∧ i.opcode.toNat ≤ 0x1E)) ∧
  (∀ (w : Word) (i : Instr), decode w = .ok i → i.tag?.isSome = true →
    i.tag? = some (w.extractLsb' 8 8) ∧ encode i = w) ∧
  (∀ (w v : Word) (i : Instr), decode w = .ok i → i.tag? = none →
    v &&& 0xFFFF00FF = w &&& 0xFFFF00FF → decode v = .ok i)

/-- R82, R86: a word with RSVD ≠ 0 raises IllegalCommand(ReservedBits, 0); otherwise one whose opcode is in none of
the four blocks of the map raises IllegalCommand(UnknownOpcode, OPC); every other word runs the command its opcode
names. Nothing but STATUS and ERR changes on an illegal word. -/
def Obligations.IllegalCommandWordsRaise : Prop :=
  ∀ (w : Word) (s : State),
    (w.extractLsb' 16 16 ≠ 0 →
      runWord w s = .next (s.errorState ⟨.illegalCommand, .reservedBits, 0⟩)) ∧
    (w.extractLsb' 16 16 = 0 →
      ((w.extractLsb' 0 8).toNat < 0x10 ∨
       (0x25 ≤ (w.extractLsb' 0 8).toNat ∧ (w.extractLsb' 0 8).toNat ≤ 0x2F) ∨
       (0x35 ≤ (w.extractLsb' 0 8).toNat ∧ (w.extractLsb' 0 8).toNat ≤ 0x3F) ∨
       0x45 ≤ (w.extractLsb' 0 8).toNat) →
      runWord w s = .next (s.errorState ⟨.illegalCommand, .unknownOpcode, w.extractLsb' 0 8⟩)) ∧
    (w.extractLsb' 16 16 = 0 →
      ((0x10 ≤ (w.extractLsb' 0 8).toNat ∧ (w.extractLsb' 0 8).toNat ≤ 0x24) ∨
       (0x30 ≤ (w.extractLsb' 0 8).toNat ∧ (w.extractLsb' 0 8).toNat ≤ 0x34) ∨
       (0x40 ≤ (w.extractLsb' 0 8).toNat ∧ (w.extractLsb' 0 8).toNat ≤ 0x44)) →
      ∃ i, decode w = .ok i ∧ i.opcode = w.extractLsb' 0 8 ∧ runWord w s = exec i s)

/-- Words written out from the encodings of R84 decode to their commands, one of each family. -/
def Obligations.SampleCommandWordsDecode : Prop :=
  decode 0x00003012 = .ok (.tlvVtag 0x30) ∧ decode 0x0000841D = .ok (.tlvEu64 0x84) ∧
  decode 0x0000FF10 = .ok .tlvPlen ∧ decode 0x00000022 = .ok .crcCheck ∧ decode 0x00000024 = .ok .sigVerify ∧
  decode 0x00000031 = .ok .timeToWireHp ∧ decode 0x00000043 = .ok .hdrGenSession

/-- When the oldest host event is a write of w to CMD and w decodes to a well-formed command, one step is exec of
that command, with the event taken off the queue (R26, R70). The queue is the model's own form of the host, log 1. -/
def Obligations.StepRunsTheDecodedCommand : Prop :=
  ∀ (s : State) (w : Word) (rest : List HostEvent) (i : Instr),
    s.pending = .write .csr 0 4 w :: rest → decode w = .ok i → i.wellFormed = true →
    step s = exec i { s with pending := rest }

/-! ## Outcomes of commands -/

/-- R237 with the outcomes of R236: a command answers a next state in one of three outcomes. OK keeps ERR and NEED;
`need n` changes STATUS and NEED only; an error changes STATUS and ERR only. -/
def Obligations.EveryCommandEndsInOneOutcome : Prop :=
  ∀ (i : Instr) (s : State), ∃ t, exec i s = .next t ∧
    ((t.res = resOk ∧ t.err = s.err ∧ t.need = s.need ∧
        (i ≠ .sigVerify → i ≠ .hdrParse → t.sigFail = false)) ∨
     (∃ n, t = s.needState n) ∨
     (∃ e, t = s.errorState e))

/-- What no command writes, whatever its outcome: LIM, SRC, LEN, CONFIG, TIMEBASE, FPS, TQMASK, S_BODYLEN, the key
bank, the parameters of the machine (R6, log 5), and the host's queue and last read; and CUR moves only when a TLV
command (opcode below 0x20) completes (R268, R41). -/
def Obligations.CommandsLeaveHostOwnedRegisters : Prop :=
  ∀ (i : Instr) (s t : State), exec i s = .next t →
    t.lim = s.lim ∧ t.src = s.src ∧ t.len = s.len ∧ t.config = s.config ∧ t.timebase = s.timebase ∧
    t.fps = s.fps ∧ t.tqMask = s.tqMask ∧ t.sBodyLen = s.sBodyLen ∧ t.keyLen = s.keyLen ∧ t.key = s.key ∧
    t.pending = s.pending ∧ t.readData = s.readData ∧ t.resets = s.resets ∧ t.params = s.params ∧
    (t.cur ≠ s.cur → t.res = resOk ∧ i.opcode.toNat < 0x20)

/-- The only commands that store to BUF are TLV.ELEN, the scalar and string encodes, CRC.GEN, SIG.GEN,
HDR.GENPLAIN and HDR.GENSESSION, and only when they complete; in every other case every byte of BUF reads as
before (R84, column writes; R236). -/
def Obligations.OnlyStoringCommandsChangeTheBuffer : Prop :=
  ∀ (i : Instr) (s t : State), exec i s = .next t →
    (i.opcode ∉ ([0x11, 0x19, 0x1A, 0x1B, 0x1C, 0x1D, 0x1E, 0x21, 0x23, 0x42, 0x43] : List Byte) ∨ t.res ≠ resOk) →
    t.buf = s.buf ∧ ∀ a, t.byteAt a = s.byteAt a

/-- No decoded command raises an error that its row of the table R234 does not list. -/
def Obligations.OnlyListedErrorsAreRaised : Prop :=
  ∀ (i : Instr) (s t : State), exec i s = .next t → t.res = resError → errCodes t.err ∈ errorsOf i

/-- Only HDR.DETECT and HDR.PARSE defer, and only when fewer bytes are available than they ask for; nothing but
STATUS and NEED changes (R197). -/
def Obligations.OnlyFrameDecodersDefer : Prop :=
  ∀ (i : Instr) (s t : State), exec i s = .next t → t.res = resNeedMore →
    (i = .hdrDetect ∨ i = .hdrParse) ∧ s.len.toNat < t.need.toNat ∧ t = s.needState t.need.toNat

/-! ## Invariant, reset and runs -/

/-- Every step from a legal state that answers a next state leaves a legal state: BUF canonical and in range, RES
never 3, SIGFAIL only beside OK, H_HDRLEN tied to HDRLEN_VALID, ERR a value of the tables R231 to R233. BUF canonical
is the model's own list form (log 4, DESIGN CHOICE). -/
def Obligations.StepKeepsLegalStates : Prop :=
  ∀ s t : State, s.Legal → step s = .next t → t.Legal

/-- The reset state is legal (R261), for every choice of the parameters of R6. BUF canonical is the model's own list
form (log 4, DESIGN CHOICE). -/
def Obligations.ResetIsLegal : Prop := ∀ p : Params, (State.resetWith p).Legal

/-- What the host reads from every CSR right after reset, and every key byte, for every choice of the parameters
(R261); the machine of the host's interface is the one built with the spec's defaults (logs 5 to 7). That an
unspecified byte of BUF reads as the free value Config.bufReset is the model's form (log 4). -/
def Obligations.ResetLeavesTheStatedValues : Prop :=
  (∀ (p : Params) (c : Csr), Csr.read (State.resetWith p) c = match c with
    | .config => 0x01
    | .timebase => 0x01000000
    | .tqMask => 0xFF000000
    | .sCltpLen => p.cltpLiReset.setWidth 32
    | .length => (if p.ftData ≠ 0 then 14 else Config.defaultSessionHdrLen).setWidth 32
    | .sTrailLen => (sigAlgOf p 0).elim 0xFFFFFFFF (fun a => BitVec.ofNat 32 a.trailerLen)
    | .keyLen => BitVec.ofNat 32 Config.dummyKeyLen.val
    | .key k => resetKeyWord k
    | _ => 0) ∧
  (∀ (p : Params), ∀ i < 64, (State.resetWith p).keyByte i =
    if i < Config.dummyKeyLen.val then Config.dummyKey i else 0) ∧
  (∀ (p : Params) (a : Nat), (State.resetWith p).byteAt a = Config.bufReset 0 a) ∧
  Sys2Proof.core.reset = State.resetWith Params.default

/-- A step stops exactly when the oldest pending access is one R66 does not admit (a CSR access that is not one
aligned word, a BUF access wider than a byte or at or past BUF_SIZE) or a CSR access past the 4 KiB window of R74;
otherwise it answers a next state. That such an access stops by a named fault is the model's form of "no step"
(log 10), and the stop past the window is the model's reading (log 11). -/
def Obligations.HostAccessStopsExactlyWhenNotAdmitted : Prop :=
  ∀ (s : State) (ev : HostEvent) (rest : List HostEvent), s.pending = ev :: rest →
    ((∃ f, step s = .fault f) ↔
      (∃ off n, (ev = .read .csr off n ∨ ∃ v, ev = .write .csr off n v) ∧
        (n ≠ 4 ∨ off % 4 ≠ 0 ∨ 0x1000 ≤ off)) ∨
      (∃ off n, (ev = .read .buf off n ∨ ∃ v, ev = .write .buf off n v) ∧
        (n ≠ 1 ∨ s.params.bufSize ≤ off))) ∧
    ((∃ t, step s = .next t) ∨ (∃ f, step s = .fault f))

/-- A run of any length from a queue of admitted events never stops, whatever the commands in it and the state
(R66, R70, R239). The queue is the model's own (log 1), and an idle step stutters (log 2). -/
def Obligations.AdmittedRunsNeverStop : Prop :=
  ∀ (n : Nat) (s : State), s.queueAdmitted → ∃ t : State, Sys2Proof.core.run n s = .next t ∧ t.queueAdmitted

/-! ## The host's view -/

/-- A host write of a RW CSR is read back in the register's width, a write of any other CSR stores nothing, and no
write of one CSR changes what another stored CSR or BUF reads as (R25, R69). -/
def Obligations.CsrWriteThenRead : Prop :=
  ∀ (s : State) (c : Csr) (v : Word),
    (c.access = .readWrite → Csr.read (Csr.write s v c) c = BitVec.ofNat 32 (v.toNat % 2 ^ c.width)) ∧
    (c.access ≠ .readWrite → Csr.write s v c = s) ∧
    (∀ d : Csr, d ≠ c → d ≠ .length → d ≠ .sTrailLen → Csr.read (Csr.write s v c) d = Csr.read s d) ∧
    (∀ a, (Csr.write s v c).byteAt a = s.byteAt a)

/-- R59: reserved CSR offsets read as 0 and ignore writes; every other CSR lies at its offset of the map. -/
def Obligations.ReservedCsrsReadZeroAndIgnoreWrites : Prop :=
  (∀ c : Csr, Csr.ofOffset c.offset = c) ∧
  (∀ (off : Nat) (s : State) (v : Word), 0x100 ≤ off → off < 0x1000 →
    Csr.read s (Csr.ofOffset off) = 0 ∧ Csr.write s v (Csr.ofOffset off) = s)

/-- A read changes nothing of the block; a write of a CSR other than CMD, or of BUF, stores its value and does nothing
else; a write of CMD runs the word (R69, R70). The read's value going to readData (log 3) and a BUF write carrying its
byte in the low 8 bits (log 14) are the model's choices. -/
def Obligations.HostAccessesHaveNoSideEffect : Prop :=
  ∀ (s : State) (rest : List HostEvent) (off : Nat) (v : Word),
    (s.pending = .read .csr off 4 :: rest → off % 4 = 0 → off < 0x1000 →
      step s = .next { s with pending := rest, readData := Csr.read s (Csr.ofOffset off) }) ∧
    (s.pending = .read .buf off 1 :: rest → off < s.params.bufSize →
      step s = .next { s with pending := rest, readData := (s.byteAt off).setWidth 32 }) ∧
    (s.pending = .write .csr off 4 v :: rest → off % 4 = 0 → off < 0x1000 → off ≠ 0 →
      step s = .next (Csr.write { s with pending := rest } v (Csr.ofOffset off))) ∧
    (s.pending = .write .csr 0 4 v :: rest → step s = runWord v { s with pending := rest }) ∧
    (s.pending = .write .buf off 1 v :: rest → off < s.params.bufSize →
      ∃ t, step s = .next t ∧ t = { s with pending := rest, buf := t.buf } ∧ StoresAt s t off [v.extractLsb' 0 8])

/-- R56 with the table R151, and LENGTH by R52: the two registers computed on every read. -/
def Obligations.ComputedRegistersReadAsStated : Prop :=
  ∀ s : State,
    Csr.read s .sTrailLen =
      (if s.sSigAlg = s.params.sigNone then 0
       else if s.sSigAlg = s.params.sigAes64 then 9
       else if s.sSigAlg = s.params.sigSha80 then 11
       else if s.sSigAlg = s.params.sigSha128 ∨ s.sSigAlg = s.params.sigAes128 then 17
       else if s.sSigAlg = s.params.sigSha256 then 33
       else 0xFFFFFFFF) ∧
    (s.hType ≠ s.params.ftData → Csr.read s .length = 14) ∧
    (s.hType = s.params.ftData → s.status.getLsbD 3 = true → Csr.read s .length = s.hHdrLen.setWidth 32) ∧
    (s.hType = s.params.ftData → s.status.getLsbD 3 = false →
      Csr.read s .length = Config.defaultSessionHdrLen.setWidth 32)

/-- A platform reset gives every register its reset value again, with the same parameters; the host's queue and last
read are the model's own and stay (R263, log 12). A step with no event pending changes nothing (log 2). -/
def Obligations.PlatformResetRestoresResetValues : Prop :=
  ∀ (s : State) (rest : List HostEvent),
    (s.pending = .platformReset :: rest →
      step s = .next
        { State.resetWith s.params with pending := rest, readData := s.readData, resets := s.resets + 1 }) ∧
    (s.pending = [] → step s = .next s)

/-- Key byte i is bits 8(i mod 4)+7 : 8(i mod 4) of KEY(i div 4): writing KEYk sets its four key bytes, the least
significant first, and no other (R58). -/
def Obligations.KeyRegistersHoldFourKeyBytes : Prop :=
  ∀ (s : State) (k : Fin 16) (v : Word),
    (∀ j : Nat, j < 4 → (Csr.write s v (.key k)).keyByte (4 * k.val + j) = v.extractLsb' (8 * j) 8) ∧
    (∀ i : Nat, i < 64 → i / 4 ≠ k.val → (Csr.write s v (.key k)).keyByte i = s.keyByte i)

/-! ## Memory -/

/-- R63: a field read whole and in its parts agrees, for every split. -/
def Obligations.MemReadSplitsBigEndian : Prop :=
  ∀ (s : State) (a m n : Nat),
    s.memRead a (m + n) = s.memRead a m * 2 ^ (8 * n) + s.memRead (a + m) n

/-- MemWrite(a, n, v) is read back as v modulo 2^(8n), its most significant byte at the lowest offset, and leaves
every other byte as it was (R10). -/
def Obligations.MemWriteReadsBack : Prop :=
  ∀ (s : State) (a n v : Nat),
    (s.memWrite a n v).memRead a n = v % 2 ^ (8 * n) ∧
    (∀ i < n, ((s.memWrite a n v).byteAt (a + i)).toNat = v / 2 ^ (8 * (n - 1 - i)) % 256) ∧
    (∀ x, (x < a ∨ a + n ≤ x) → (s.memWrite a n v).byteAt x = s.byteAt x)

/-! ## TLV commands -/

/-- TLV.PLEN (R112): with the whole length header in the window it reports the declared length of the table R101
and moves CUR past the header; otherwise OutOfBounds. -/
def Obligations.PlenParsesLengthHeader : Prop :=
  ∀ s : State,
    (s.cur.toNat + s.headerSize s.cur.toNat ≤ s.winEnd →
      exec .tlvPlen s = .next { s with
        status := s.okStatus
        rlen := BitVec.ofNat 32 (s.declaredLen s.cur.toNat)
        cur := BitVec.ofNat 32 (s.cur.toNat + s.headerSize s.cur.toNat) }) ∧
    (s.winEnd < s.cur.toNat + s.headerSize s.cur.toNat →
      exec .tlvPlen s = .next (s.errorState (.plain .outOfBounds)))

/-- TLV.VTAG (R114): the tag must match and the length header must lie in the window; the value need not. -/
def Obligations.VtagValidatesTag : Prop :=
  ∀ (s : State) (tag : Byte) (c v : Nat), c = s.cur.toNat → v = c + 1 + s.headerSize (c + 1) →
    (v ≤ s.winEnd → s.byteAt c = tag →
      exec (.tlvVtag tag) s = .next { s with
        status := s.okStatus
        rlen := BitVec.ofNat 32 (s.declaredLen (c + 1))
        raddr := BitVec.ofNat 32 v
        cur := BitVec.ofNat 32 v }) ∧
    (s.winEnd < c + 1 → exec (.tlvVtag tag) s = .next (s.errorState (.plain .outOfBounds))) ∧
    (c + 1 ≤ s.winEnd → s.byteAt c ≠ tag →
      exec (.tlvVtag tag) s = .next (s.errorState (.protocol .unexpectedTag (s.byteAt c)))) ∧
    (c + 1 ≤ s.winEnd → s.byteAt c = tag → s.winEnd < v →
      exec (.tlvVtag tag) s = .next (s.errorState (.plain .outOfBounds)))

/-- TLV.PBYTE, TLV.PU16, TLV.PU24, TLV.PU32, TLV.PU64 (R115 to R119), with natural width w: the first w value bytes
go to VAL, and CUR moves by the declared length n, which must be at least w and lie in the window. -/
def Obligations.ScalarParsesReadDeclaredValue : Prop :=
  ∀ (i : Instr) (w : Nat) (tag : Byte) (s : State) (c v n : Nat), i.scalarParse? = some (w, tag) →
    c = s.cur.toNat → v = c + 1 + s.headerSize (c + 1) → n = s.declaredLen (c + 1) →
    (s.byteAt c = tag → w ≤ n → v + n ≤ s.winEnd →
      exec i s = .next { s with
        status := s.okStatus
        valLo := BitVec.ofNat 32 (s.memRead v w)
        valHi := BitVec.ofNat 32 (s.memRead v w / 2 ^ 32)
        rlen := BitVec.ofNat 32 n
        raddr := BitVec.ofNat 32 v
        cur := BitVec.ofNat 32 (v + n) }) ∧
    (s.winEnd < c + 1 → exec i s = .next (s.errorState (.plain .outOfBounds))) ∧
    (c + 1 ≤ s.winEnd → s.byteAt c ≠ tag →
      exec i s = .next (s.errorState (.protocol .unexpectedTag (s.byteAt c)))) ∧
    (c + 1 ≤ s.winEnd → s.byteAt c = tag → s.winEnd < v →
      exec i s = .next (s.errorState (.plain .outOfBounds))) ∧
    (s.byteAt c = tag → v ≤ s.winEnd → n < w →
      exec i s = .next (s.errorState (.protocol .lengthTooShort (BitVec.ofNat 8 (min n 255))))) ∧
    (s.byteAt c = tag → v ≤ s.winEnd → w ≤ n → s.winEnd < v + n →
      exec i s = .next (s.errorState (.plain .outOfBounds)))

/-- TLV.PSTR (R120): the string of the declared length n, 0 included, must lie in the window; the block reports
where it lies and moves CUR past it. -/
def Obligations.PstrLocatesString : Prop :=
  ∀ (s : State) (tag : Byte) (c v n : Nat),
    c = s.cur.toNat → v = c + 1 + s.headerSize (c + 1) → n = s.declaredLen (c + 1) →
    (s.byteAt c = tag → v + n ≤ s.winEnd →
      exec (.tlvPstr tag) s = .next { s with
        status := s.okStatus
        rlen := BitVec.ofNat 32 n
        raddr := BitVec.ofNat 32 v
        cur := BitVec.ofNat 32 (v + n) }) ∧
    (s.winEnd < c + 1 → exec (.tlvPstr tag) s = .next (s.errorState (.plain .outOfBounds))) ∧
    (c + 1 ≤ s.winEnd → s.byteAt c ≠ tag →
      exec (.tlvPstr tag) s = .next (s.errorState (.protocol .unexpectedTag (s.byteAt c)))) ∧
    (c + 1 ≤ s.winEnd → s.byteAt c = tag → s.winEnd < v + n →
      exec (.tlvPstr tag) s = .next (s.errorState (.plain .outOfBounds)))

/-- TLV.ELEN (R113): the minimal length header of LEN is stored at CUR and CUR moves past it; LEN > 65535 raises
ValueTooLarge first, then a header that does not fit the window raises OutOfBounds. -/
def Obligations.ElenStoresMinimalHeader : Prop :=
  ∀ (s : State) (h : List Byte), h = minimalHeader s.len.toNat →
    (s.len.toNat ≤ 65535 → s.cur.toNat + h.length ≤ s.winEnd →
      ∃ t, exec .tlvElen s = .next t ∧
        t = { s with status := s.okStatus, cur := BitVec.ofNat 32 (s.cur.toNat + h.length), buf := t.buf } ∧
        StoresAt s t s.cur.toNat h) ∧
    (65535 < s.len.toNat → exec .tlvElen s = .next (s.errorState (.plain .valueTooLarge))) ∧
    (s.len.toNat ≤ 65535 → s.winEnd < s.cur.toNat + h.length →
      exec .tlvElen s = .next (s.errorState (.plain .outOfBounds)))

/-- TLV.EBYTE, TLV.EU16, TLV.EU24, TLV.EU32, TLV.EU64 (R121 to R125), with natural width w: tag, the length byte w,
and the low 8w bits of VAL big-endian are stored at CUR, and CUR moves past them; otherwise OutOfBounds. -/
def Obligations.ScalarEncodesStoreImage : Prop :=
  ∀ (i : Instr) (w : Nat) (tag : Byte) (s : State), i.scalarEncode? = some (w, tag) →
    (s.cur.toNat + (2 + w) ≤ s.winEnd →
      ∃ t, exec i s = .next t ∧
        t = { s with status := s.okStatus, cur := BitVec.ofNat 32 (s.cur.toNat + (2 + w)), buf := t.buf } ∧
        StoresAt s t s.cur.toNat (tag :: BitVec.ofNat 8 w :: beBytes w (s.val % 2 ^ (8 * w)))) ∧
    (s.winEnd < s.cur.toNat + (2 + w) → exec i s = .next (s.errorState (.plain .outOfBounds)))

/-- TLV.ESTR (R128): tag, minimal length header and the LEN bytes at SRC, as they were before the command, are
stored at CUR, and CUR moves past them; ValueTooLarge first, then the source's bounds, then the window's. -/
def Obligations.EstrStoresStringImage : Prop :=
  ∀ (s : State) (tag : Byte) (img : List Byte),
    img = tag :: (minimalHeader s.len.toNat ++ s.bytesAt s.src.toNat s.len.toNat) →
    (s.len.toNat ≤ 65535 → s.src.toNat + s.len.toNat ≤ s.params.bufSize → s.cur.toNat + img.length ≤ s.winEnd →
      ∃ t, exec (.tlvEstr tag) s = .next t ∧
        t = { s with status := s.okStatus, cur := BitVec.ofNat 32 (s.cur.toNat + img.length), buf := t.buf } ∧
        StoresAt s t s.cur.toNat img) ∧
    (65535 < s.len.toNat → exec (.tlvEstr tag) s = .next (s.errorState (.plain .valueTooLarge))) ∧
    (s.len.toNat ≤ 65535 →
      (s.params.bufSize < s.src.toNat + s.len.toNat ∨ s.winEnd < s.cur.toNat + img.length) →
      exec (.tlvEstr tag) s = .next (s.errorState (.plain .outOfBounds)))

/-- TLV.EBOOL (R129): always UnsupportedType, and nothing is written. -/
def Obligations.EboolAlwaysRefusesBooleans : Prop :=
  ∀ s : State, exec .tlvEbool s = .next (s.errorState (.plain .unsupportedType))

/-- R106: for every n in 0..65535 the length header of n is minimal, and parsing it gives n back and ends after it. -/
def Obligations.LengthHeaderRoundTrip : Prop :=
  ∀ n ≤ 65535, ∃ h, lenHdr n = .ok h ∧
    h.length = (if n ≤ 127 then 1 else if n ≤ 255 then 2 else 3) ∧
    ∀ (s : State) (c fin : Nat) (e : CmdError), s.bytesAt c h.length = h → c + h.length ≤ fin →
      parseTagLength s c fin e = .ok ⟨n, c + h.length⟩

/-- R127: a scalar encode followed by the parse of the same width and tag from the same CUR gives VAL back and moves
CUR by 2 + w both times; a string encode followed by TLV.PSTR reports a string equal to the encoded one. -/
def Obligations.TlvRoundTrip : Prop :=
  (∀ (i j : Instr) (w : Nat) (tag : Byte) (s t : State), i.scalarEncode? = some (w, tag) →
    j.scalarParse? = some (w, tag) → exec i s = .next t → t.res = resOk →
    t.cur.toNat = s.cur.toNat + 2 + w ∧
    ∃ u, exec j { t with cur := s.cur } = .next u ∧ u.res = resOk ∧ u.val = s.val % 2 ^ (8 * w) ∧
      u.cur.toNat = s.cur.toNat + 2 + w) ∧
  (∀ (tag : Byte) (s t : State), exec (.tlvEstr tag) s = .next t → t.res = resOk →
    ∃ u, exec (.tlvPstr tag) { t with cur := s.cur } = .next u ∧ u.res = resOk ∧ u.rlen = s.len ∧
      u.bytesAt u.raddr.toNat u.rlen.toNat = s.bytesAt s.src.toNat s.len.toNat)

/-! ## Checksum commands -/

/-- CRC.CALC (R143): the CRC of the span, or OutOfBounds when the span passes BUF_SIZE. -/
def Obligations.CrcCalcComputesSpan : Prop :=
  ∀ s : State,
    (s.src.toNat + s.len.toNat ≤ s.params.bufSize →
      exec .crcCalc s = .next { s with
        status := s.okStatus, crc := crc16 s.params (s.bytesAt s.src.toNat s.len.toNat) }) ∧
    (s.params.bufSize < s.src.toNat + s.len.toNat →
      exec .crcCalc s = .next (s.errorState (.plain .outOfBounds)))

/-- CRC.GEN (R147, R146): the CRC of the span is stored big-endian in the two bytes after it and kept in CRC, or
OutOfBounds and nothing is written. -/
def Obligations.CrcGenStoresTrailer : Prop :=
  ∀ (s : State) (c : BitVec 16), c = crc16 s.params (s.bytesAt s.src.toNat s.len.toNat) →
    (s.src.toNat + s.len.toNat + 2 ≤ s.params.bufSize →
      ∃ t, exec .crcGen s = .next t ∧ t = { s with status := s.okStatus, crc := c, buf := t.buf } ∧
        StoresAt s t (s.src.toNat + s.len.toNat) [c.extractLsb' 8 8, c.extractLsb' 0 8]) ∧
    (s.params.bufSize < s.src.toNat + s.len.toNat + 2 →
      exec .crcGen s = .next (s.errorState (.plain .outOfBounds)))

/-- CRC.CHECK (R148, R145): the two bytes after the span must be its CRC, big-endian; a mismatch raises
ChecksumMismatch whatever CONFIG holds, and CRC keeps its value. -/
def Obligations.CrcCheckComparesTrailer : Prop :=
  ∀ (s : State) (c : BitVec 16), c = crc16 s.params (s.bytesAt s.src.toNat s.len.toNat) →
    (s.src.toNat + s.len.toNat + 2 ≤ s.params.bufSize → s.memRead (s.src.toNat + s.len.toNat) 2 = c.toNat →
      exec .crcCheck s = .next { s with status := s.okStatus, crc := c }) ∧
    (s.src.toNat + s.len.toNat + 2 ≤ s.params.bufSize → s.memRead (s.src.toNat + s.len.toNat) 2 ≠ c.toNat →
      exec .crcCheck s = .next (s.errorState (.plain .checksumMismatch))) ∧
    (s.params.bufSize < s.src.toNat + s.len.toNat + 2 →
      exec .crcCheck s = .next (s.errorState (.plain .outOfBounds)))

/-- A span that CRC.GEN closed passes CRC.CHECK with the same operands, under every CONFIG (R147, R148). -/
def Obligations.GeneratedCrcPassesCheck : Prop :=
  ∀ (s t : State) (cfg : BitVec 6), exec .crcGen s = .next t → t.res = resOk →
    exec .crcCheck { t with config := cfg } = .next { t with config := cfg }

/-- The reference values of the spec, under the PRESUMED default parameters (logs 7 and 8): the CRC of "123456789"
and of the empty string (R141), and RFC 4231 test case 2 (93 GK12). -/
def Obligations.ReferenceVectorsHold : Prop :=
  crc16 Params.default [0x31, 0x32, 0x33, 0x34, 0x35, 0x36, 0x37, 0x38, 0x39] = 0x29B1 ∧
  crc16 Params.default [] = 0xFFFF ∧
  hmacSha256 [0x4A, 0x65, 0x66, 0x65]
    [0x77, 0x68, 0x61, 0x74, 0x20, 0x64, 0x6F, 0x20, 0x79, 0x61, 0x20, 0x77, 0x61, 0x6E, 0x74, 0x20, 0x66, 0x6F,
     0x72, 0x20, 0x6E, 0x6F, 0x74, 0x68, 0x69, 0x6E, 0x67, 0x3F] =
    beBytes 32 0x5BDCC146BF60754E6A042426089575C75A003F089D2739839DEC58B964EC3843

/-! ## Signature commands -/

/-- SIG.GEN (R160) with the checks of R159: a legal algorithm other than None stores the marker 0x85 and the MAC of
the span from offset 2 to the trailer in the last T bytes of the frame; None stores nothing; the errors come in
the order of the checks. -/
def Obligations.SigGenStoresTrailer : Prop :=
  ∀ (s : State) (alg : SigAlg) (pe : Nat), pe = s.len.toNat - alg.trailerLen →
    (sigAlgOf s.params s.sSigAlg = some alg → alg ≠ .none → 2 + alg.trailerLen ≤ s.len.toNat →
      s.src.toNat + s.len.toNat ≤ s.params.bufSize → s.keyLen.toNat ≤ 64 →
      ∃ t, exec .sigGen s = .next t ∧ t = { s with status := s.okStatus, buf := t.buf } ∧
        StoresAt s t (s.src.toNat + pe)
          (0x85 :: computeMac alg s.keyBytes (s.bytesAt (s.src.toNat + 2) (pe - 2))) ∧
        (computeMac alg s.keyBytes (s.bytesAt (s.src.toNat + 2) (pe - 2))).length + 1 = alg.trailerLen) ∧
    (sigAlgOf s.params s.sSigAlg = some .none → 2 ≤ s.len.toNat → s.src.toNat + s.len.toNat ≤ s.params.bufSize →
      exec .sigGen s = .next { s with status := s.okStatus }) ∧
    (sigAlgOf s.params s.sSigAlg = none →
      exec .sigGen s = .next (s.errorState (.protocol .unsupportedSignatureAlgorithm s.sSigAlg))) ∧
    (sigAlgOf s.params s.sSigAlg = some alg → s.len.toNat < 2 + alg.trailerLen →
      exec .sigGen s = .next (s.errorState (.plain .badArgument))) ∧
    (sigAlgOf s.params s.sSigAlg = some alg → 2 + alg.trailerLen ≤ s.len.toNat →
      s.params.bufSize < s.src.toNat + s.len.toNat →
      exec .sigGen s = .next (s.errorState (.plain .outOfBounds))) ∧
    (sigAlgOf s.params s.sSigAlg = some alg → alg ≠ .none → 2 + alg.trailerLen ≤ s.len.toNat →
      s.src.toNat + s.len.toNat ≤ s.params.bufSize → 64 < s.keyLen.toNat →
      exec .sigGen s = .next (s.errorState (.plain .badArgument)))

/-- SIG.VERIFY (R161, R157, R158): None passes unread; a wrong marker raises MissingSignatureTag whatever CONFIG
holds; a matching MAC passes; a mismatch passes with SIGFAIL under IGNORE_SIG and raises SignatureMismatch
otherwise. -/
def Obligations.SigVerifyChecksTrailer : Prop :=
  ∀ (s : State) (alg : SigAlg) (pe : Nat), pe = s.len.toNat - alg.trailerLen →
    (sigAlgOf s.params s.sSigAlg = none →
      exec .sigVerify s = .next (s.errorState (.protocol .unsupportedSignatureAlgorithm s.sSigAlg))) ∧
    (sigAlgOf s.params s.sSigAlg = some alg → s.len.toNat < 2 + alg.trailerLen →
      exec .sigVerify s = .next (s.errorState (.plain .badArgument))) ∧
    (sigAlgOf s.params s.sSigAlg = some alg → 2 + alg.trailerLen ≤ s.len.toNat →
      s.params.bufSize < s.src.toNat + s.len.toNat →
      exec .sigVerify s = .next (s.errorState (.plain .outOfBounds))) ∧
    (sigAlgOf s.params s.sSigAlg = some alg → 2 + alg.trailerLen ≤ s.len.toNat →
      s.src.toNat + s.len.toNat ≤ s.params.bufSize →
      (alg = .none → exec .sigVerify s = .next { s with status := s.okStatus }) ∧
      (alg ≠ .none → s.byteAt (s.src.toNat + pe) ≠ 0x85 →
        exec .sigVerify s =
          .next (s.errorState ⟨.missingSignatureTag, .none, s.byteAt (s.src.toNat + pe)⟩)) ∧
      (alg ≠ .none → s.byteAt (s.src.toNat + pe) = 0x85 → 64 < s.keyLen.toNat →
        exec .sigVerify s = .next (s.errorState (.plain .badArgument))) ∧
      (alg ≠ .none → s.byteAt (s.src.toNat + pe) = 0x85 → s.keyLen.toNat ≤ 64 →
        (MacMatches s s.src.toNat pe alg → exec .sigVerify s = .next { s with status := s.okStatus }) ∧
        (¬ MacMatches s s.src.toNat pe alg → s.config.getLsbD 0 = true →
          exec .sigVerify s = .next { s with status := statusOf s.hdrLenValid true resOk }) ∧
        (¬ MacMatches s s.src.toNat pe alg → s.config.getLsbD 0 = false →
          exec .sigVerify s = .next (s.errorState (.plain .signatureMismatch)))))

/-- A frame signed by SIG.GEN with the same key and code always passes SIG.VERIFY, whatever CONFIG holds and
whatever the AES-based MAC is (R161, R162). -/
def Obligations.SignedFrameVerifies : Prop :=
  ∀ (s t : State) (cfg : BitVec 6), exec .sigGen s = .next t → t.res = resOk →
    exec .sigVerify { t with config := cfg } = .next { t with config := cfg }

/-- For every legal signature code other than None, the trailer length added to the frame length on decode is
1 plus the number of MAC bytes that are compared, whatever the key, the message and the AES-based MAC (R163; None has
neither, R151). -/
def Obligations.TrailerLengthCountsMarkerAndMac : Prop :=
  ∀ (p : Params) (code cltp : Byte) (spdu : Nat) (alg : SigAlg) (k m : List Byte), sigAlgOf p code = some alg →
    alg ≠ .none →
    sessionTotal cltp spdu alg = cltp.toNat + spdu + 8 + (1 + (computeMac alg k m).length)

/-! ## Time commands -/

/-- TIME.TOWIRE (R177, R172, R173): the fraction is ns·TB / 10^9 rounded half up; when it reaches TB it carries into
the seconds, which wrap at 2^32; the TIMEBASE and T_NS checks come first. -/
def Obligations.ToWireRoundsAndCarries : Prop :=
  ∀ (s : State) (f : Nat), f = (s.tNs.toNat * s.timebase.toNat + 500000000) / 1000000000 →
    (1 ≤ s.timebase.toNat → s.timebase.toNat ≤ 16777216 → s.tNs.toNat < 1000000000 →
      exec .timeToWire s = .next { s with
        status := s.okStatus
        wSoc := if f = s.timebase.toNat then s.tSec + 1 else s.tSec
        wFrac := if f = s.timebase.toNat then 0 else BitVec.ofNat 32 f }) ∧
    ((s.timebase.toNat < 1 ∨ 16777216 < s.timebase.toNat ∨ 1000000000 ≤ s.tNs.toNat) →
      exec .timeToWire s = .next (s.errorState (.plain .badArgument)))

/-- TIME.TOWIREHP (R178, R174, R175): with FPS = 0 the result of TIME.TOWIRE; otherwise the frame index and the
fraction, each rounded half up, with the same carry. -/
def Obligations.ToWireHpQuantisesToFrames : Prop :=
  ∀ (s : State) (k f : Nat), k = (s.tNs.toNat * s.fps.toNat + 500000000) / 1000000000 →
    f = (s.timebase.toNat * k + s.fps.toNat / 2) / s.fps.toNat →
    (1 ≤ s.timebase.toNat → s.timebase.toNat ≤ 16777216 → s.tNs.toNat < 1000000000 → 1 ≤ s.fps.toNat →
      exec .timeToWireHp s = .next { s with
        status := s.okStatus
        wSoc := if f = s.timebase.toNat then s.tSec + 1 else s.tSec
        wFrac := if f = s.timebase.toNat then 0 else BitVec.ofNat 32 f }) ∧
    (s.fps = 0 → exec .timeToWireHp s = exec .timeToWire s) ∧
    ((s.timebase.toNat < 1 ∨ 16777216 < s.timebase.toNat ∨ 1000000000 ≤ s.tNs.toNat) →
      exec .timeToWireHp s = .next (s.errorState (.plain .badArgument)))

/-- TIME.FROMWIRE (R179, R176): the masked fraction gives nanoseconds rounded half up, whole seconds carry into
T_SEC modulo 2^32; an illegal TIMEBASE raises BadArgument. -/
def Obligations.FromWireMasksAndCarries : Prop :=
  ∀ (s : State) (n : Nat), n = nanosOf s.wFrac s.tqMask s.timebase.toNat →
    (1 ≤ s.timebase.toNat → s.timebase.toNat ≤ 16777216 →
      exec .timeFromWire s = .next { s with
        status := s.okStatus
        tSec := BitVec.ofNat 32 (s.wSoc.toNat + n / 1000000000)
        tNs := BitVec.ofNat 32 (n % 1000000000) }) ∧
    ((s.timebase.toNat < 1 ∨ 16777216 < s.timebase.toNat) →
      exec .timeFromWire s = .next (s.errorState (.plain .badArgument)))

/-- TIME.PACKRT (R180) and TIME.UNPACKRT (R181): the layout of the RefrTm word, and unpacking a packed word restores
W_SOC, TQ and the 24 fraction bits and clears the bits above them. -/
def Obligations.RefrTmPacksAndUnpacks : Prop :=
  (∀ s : State, exec .timePackRt s = .next { s with
    status := s.okStatus, valHi := s.wSoc, valLo := BitVec.ofNat 32 (s.wFrac.toNat % 2 ^ 24 * 256 + s.tq.toNat) }) ∧
  (∀ s : State, exec .timeUnpackRt s = .next { s with
    status := s.okStatus, wSoc := s.valHi, wFrac := s.valLo >>> 8, tq := s.valLo.extractLsb' 0 8 }) ∧
  (∀ s t : State, exec .timePackRt s = .next t →
    exec .timeUnpackRt t = .next { t with wFrac := s.wFrac &&& 0x00FFFFFF })

/-- R182: TIME.TOWIRE then TIME.FROMWIRE, with the mask's bits all at or above bit 24, returns a timestamp within one
timebase unit, 10^9 / TB nanoseconds, counted across a seconds carry (so T_SEC and the seconds are compared modulo
2^32: `k` is the whole seconds gained, 0 or 1). -/
def Obligations.TimeRoundTripWithinOneUnit : Prop :=
  ∀ (s t : State), exec .timeToWire s = .next t → t.res = resOk → s.tqMask &&& 0x00FFFFFF = 0 →
    ∃ u, exec .timeFromWire t = .next u ∧ u.res = resOk ∧
      ∃ k ≤ 1, u.tSec = s.tSec + BitVec.ofNat 32 k ∧
        (((k * 1000000000 + u.tNs.toNat : Nat) : Int) - (s.tNs.toNat : Int)).natAbs * s.timebase.toNat ≤ 1000000000

/-- A fraction the block computes is below the timebase, so it fits 24 bits, and W_FRAC[31:24] = 0 (R173, R44). -/
def Obligations.ComputedFractionsFitTwentyFourBits : Prop :=
  ∀ (i : Instr) (s t : State), (i = .timeToWire ∨ i = .timeToWireHp) → exec i s = .next t → t.res = resOk →
    t.wFrac.toNat < s.timebase.toNat ∧ t.wFrac.toNat < 2 ^ 24

/-! ## Header commands -/

/-- HDR.DETECT (R194, R192, R193): the sync byte is tested first, then the CLTP tag; fewer than 2 bytes defer;
neither is UnknownFormat; only STATUS and H_FORMAT change. -/
def Obligations.DetectClassifiesFrame : Prop :=
  ∀ (s : State) (b : Nat), b = s.src.toNat →
    (b + s.len.toNat ≤ s.params.bufSize → 2 ≤ s.len.toNat → s.byteAt b = s.params.syncByte →
      exec .hdrDetect s = .next { s with status := s.okStatus, hFormat := 1 }) ∧
    (b + s.len.toNat ≤ s.params.bufSize → 2 ≤ s.len.toNat → s.byteAt b ≠ s.params.syncByte →
      s.byteAt (b + 1) = s.params.cltpTag →
      exec .hdrDetect s = .next { s with status := s.okStatus, hFormat := 2 }) ∧
    (b + s.len.toNat ≤ s.params.bufSize → s.len.toNat < 2 → exec .hdrDetect s = .next (s.needState 2)) ∧
    (b + s.len.toNat ≤ s.params.bufSize → 2 ≤ s.len.toNat → s.byteAt b ≠ s.params.syncByte →
      s.byteAt (b + 1) ≠ s.params.cltpTag →
      exec .hdrDetect s = .next (s.errorState (.protocol .unknownFormat (s.byteAt b)))) ∧
    (s.params.bufSize < b + s.len.toNat → exec .hdrDetect s = .next (s.errorState (.plain .outOfBounds)))

/-- HDR.PARSE of a plain frame (R203, R204, R205): every register of the plain header is written as the layout R200
to R202 and the conversion R176 say; the session registers, W_SOC, W_FRAC and BUF are not. -/
def Obligations.ParsePlainWritesHeaderRegisters : Prop :=
  ∀ (s : State) (flen : Nat), PlainFrame s flen → exec .hdrParse s = .next (s.withPlainHeader flen)

/-- HDR.PARSE of a session frame (R209, R210, R214): every session register is written as the layout says, SIGFAIL
records a mismatch that IGNORE_SIG let pass, and the plain-header and time registers keep their values. -/
def Obligations.ParseSessionWritesHeaderRegisters : Prop :=
  ∀ (s : State) (alg : SigAlg) (total b : Nat) (fail : Bool), SessionFrame s alg total → b = s.src.toNat →
    (fail = true ↔ alg ≠ .none ∧ ¬ MacMatches s b (total - alg.trailerLen) alg) →
    exec .hdrParse s = .next { s with
      status := statusOf true fail resOk
      hFormat := 2
      hType := s.params.ftData
      hFrameLen := BitVec.ofNat 16 total
      hHdrLen := BitVec.ofNat 16 (s.bodyAt b - b)
      sCltpLen := s.byteAt b
      sSpduLen := BitVec.ofNat 32 (s.memRead (b + 6) 4)
      sPktNum := BitVec.ofNat 32 (s.memRead (b + 10) 4)
      sVersion := BitVec.ofNat 16 (s.memRead (b + 14) 2)
      sKeyTime0 := BitVec.ofNat 32 (s.memRead (b + 16) 4)
      sKeyTime1 := BitVec.ofNat 16 (s.memRead (b + 20) 2)
      sSecAlg := s.byteAt (b + 22)
      sSigAlg := s.byteAt (b + 23)
      sKeyId := BitVec.ofNat 32 (s.memRead (b + 24) 4)
      sPayLen := BitVec.ofNat 32 (s.memRead (b + 28) 4)
      sSim := s.byteAt (b + 33)
      sAppId := BitVec.ofNat 16 (s.memRead (b + 34) 2)
      sAsduLen := BitVec.ofNat 16 (s.memRead (b + 36) 2)
      sAsduCount := s.byteAt (s.countValueAt b) }

/-- HDR.PARSE defers, with NEED counted from SRC and nothing else written, while the bytes it needs next have not
arrived: 2 for the format, 14 for the plain header, the frame length for a plain frame, 26 for the session header,
the total for a session frame (R192, R203, R209, R212). -/
def Obligations.ParseDefersUntilFrameArrives : Prop :=
  ∀ (s : State) (b n : Nat), b = s.src.toNat → b + s.len.toNat ≤ s.params.bufSize →
    (s.len.toNat < 2 → exec .hdrParse s = .next (s.needState 2)) ∧
    (2 ≤ s.len.toNat → s.len.toNat < 14 → s.byteAt b = s.params.syncByte →
      exec .hdrParse s = .next (s.needState 14)) ∧
    (14 ≤ s.len.toNat → s.byteAt b = s.params.syncByte →
      (s.byteAt (b + 1)).extractLsb' 4 3 ∈ [s.params.ftData, s.params.ftCfg, s.params.ftCmd] →
      n = s.memRead (b + 2) 2 → b + n ≤ s.params.bufSize → s.len.toNat < n →
      exec .hdrParse s = .next (s.needState n)) ∧
    (2 ≤ s.len.toNat → s.len.toNat < 26 → s.byteAt b ≠ s.params.syncByte → s.byteAt (b + 1) = s.params.cltpTag →
      exec .hdrParse s = .next (s.needState 26)) ∧
    (∀ alg, SessionStart s alg n → s.len.toNat < n → exec .hdrParse s = .next (s.needState n))

/-- HDR.PARSE's errors, every one, in the order of the checks of R192, R203 and R209: those before a signature is looked
at, those of the signature (R157), and after it a payload that ends too early, the payload type, and the ASDU prefix,
whose first failing check State.asduPrefixError? gives by R209. -/
def Obligations.ParseRefusesBadHeaders : Prop :=
  ∀ (s : State) (b flen : Nat), b = s.src.toNat → flen = s.memRead (b + 2) 2 →
    (s.params.bufSize < b + s.len.toNat → exec .hdrParse s = .next (s.errorState (.plain .outOfBounds))) ∧
    (b + s.len.toNat ≤ s.params.bufSize →
      (2 ≤ s.len.toNat → s.byteAt b ≠ s.params.syncByte → s.byteAt (b + 1) ≠ s.params.cltpTag →
        exec .hdrParse s = .next (s.errorState (.protocol .unknownFormat (s.byteAt b)))) ∧
      (14 ≤ s.len.toNat → s.byteAt b = s.params.syncByte →
        ((s.byteAt (b + 1)).extractLsb' 4 3 ∉ [s.params.ftData, s.params.ftCfg, s.params.ftCmd] →
          exec .hdrParse s = .next (s.errorState (.protocol .unknownFrameType (s.byteAt (b + 1))))) ∧
        ((s.byteAt (b + 1)).extractLsb' 4 3 ∈ [s.params.ftData, s.params.ftCfg, s.params.ftCmd] →
          (flen < 14 → exec .hdrParse s = .next (s.errorState (.protocol .badFrameLength 0))) ∧
          (14 ≤ flen → s.params.bufSize < b + flen →
            exec .hdrParse s = .next (s.errorState (.plain .lengthOverflow))) ∧
          (14 ≤ flen → b + flen ≤ s.params.bufSize → flen ≤ s.len.toNat →
            (s.timebase.toNat < 1 ∨ 16777216 < s.timebase.toNat) →
            exec .hdrParse s = .next (s.errorState (.plain .badArgument))))) ∧
      (26 ≤ s.len.toNat → s.byteAt b ≠ s.params.syncByte → s.byteAt (b + 1) = s.params.cltpTag →
        (s.byteAt (b + 2) ≠ 0xA2 →
          exec .hdrParse s = .next (s.errorState (.protocol .unsupportedSessionType (s.byteAt (b + 2))))) ∧
        (s.byteAt (b + 2) = 0xA2 → s.byteAt (b + 3) ≠ 0x18 →
          exec .hdrParse s = .next (s.errorState (.protocol .invalidSessionHeader (s.byteAt (b + 3))))) ∧
        (s.byteAt (b + 2) = 0xA2 → s.byteAt (b + 3) = 0x18 → s.byteAt (b + 22) ∉ s.params.secCodes →
          exec .hdrParse s = .next (s.errorState (.protocol .unsupportedSecurityAlgorithm (s.byteAt (b + 22))))) ∧
        (s.byteAt (b + 2) = 0xA2 → s.byteAt (b + 3) = 0x18 → s.byteAt (b + 22) ∈ s.params.secCodes →
          (sigAlgOf s.params (s.byteAt (b + 23)) = none →
            exec .hdrParse s = .next (s.errorState (.protocol .unsupportedSignatureAlgorithm (s.byteAt (b + 23))))) ∧
          (∀ alg total, sigAlgOf s.params (s.byteAt (b + 23)) = some alg →
            total = (s.byteAt b).toNat + s.memRead (b + 6) 4 + 8 + alg.trailerLen →
            (65535 < total ∨ s.params.bufSize < b + total) →
            exec .hdrParse s = .next (s.errorState (.plain .lengthOverflow)))))) ∧
    (∀ alg total pe, SessionStart s alg total → total ≤ s.len.toNat → pe = total - alg.trailerLen →
      (pe < 32 → exec .hdrParse s = .next (s.errorState (.protocol .truncated 0))) ∧
      (32 ≤ pe → alg ≠ .none → s.byteAt (b + pe) ≠ 0x85 →
        exec .hdrParse s = .next (s.errorState ⟨.missingSignatureTag, .none, s.byteAt (b + pe)⟩)) ∧
      (32 ≤ pe → alg ≠ .none → s.byteAt (b + pe) = 0x85 → 64 < s.keyLen.toNat →
        exec .hdrParse s = .next (s.errorState (.plain .badArgument))) ∧
      (32 ≤ pe → alg ≠ .none → s.byteAt (b + pe) = 0x85 → s.keyLen.toNat ≤ 64 → ¬ MacMatches s b pe alg →
        s.config.getLsbD 0 = false → exec .hdrParse s = .next (s.errorState (.plain .signatureMismatch))) ∧
      (33 ≤ pe → (alg ≠ .none → s.byteAt (b + pe) = 0x85 ∧ s.keyLen.toNat ≤ 64 ∧
          (MacMatches s b pe alg ∨ s.config.getLsbD 0 = true)) → s.byteAt (b + 32) ≠ 0x82 →
        exec .hdrParse s = .next (s.errorState (.protocol .unsupportedPayloadType (s.byteAt (b + 32))))) ∧
      ((alg ≠ .none → s.byteAt (b + pe) = 0x85 ∧ s.keyLen.toNat ≤ 64 ∧
          (MacMatches s b pe alg ∨ s.config.getLsbD 0 = true)) →
        (pe = 32 → exec .hdrParse s = .next (s.errorState (.protocol .truncated 0))) ∧
        (33 ≤ pe → pe < 38 → s.byteAt (b + 32) = 0x82 →
          exec .hdrParse s = .next (s.errorState (.protocol .truncated 0))) ∧
        (∀ e, 38 ≤ pe → s.byteAt (b + 32) = 0x82 → s.asduPrefixError? b (b + pe) = some e →
          exec .hdrParse s = .next (s.errorState e))))

/-- HDR.GENPLAIN (R215, R206): the 14 header bytes are stored at SRC by the layout R200 to R202, with the wire time
that TIME.TOWIREHP computes, and nothing else of BUF changes; the errors come in the order of the checks. -/
def Obligations.GenPlainStoresHeader : Prop :=
  ∀ (s : State) (b : Nat), b = s.src.toNat →
    (b + 14 ≤ s.params.bufSize → s.hType ∈ [s.params.ftData, s.params.ftCfg, s.params.ftCmd] → 14 ≤ s.hFrameLen.toNat →
      1 ≤ s.timebase.toNat → s.timebase.toNat ≤ 16777216 → s.tNs.toNat < 1000000000 →
      ∃ t w, exec .hdrGenPlain s = .next t ∧ exec .timeToWireHp s = .next w ∧
        t = { s with
          status := statusOf true false resOk, hSoc := w.wSoc, hFracSec := s.tq ++ w.wFrac.extractLsb' 0 24,
          hHdrLen := 14, hFormat := 1, buf := t.buf } ∧
        t.byteAt b = s.params.syncByte ∧ t.byteAt (b + 1) = 0#1 ++ s.hType ++ s.hVersion ∧
        t.memRead (b + 2) 2 = s.hFrameLen.toNat ∧ t.memRead (b + 4) 2 = s.hIdCode.toNat ∧
        t.memRead (b + 6) 4 = w.wSoc.toNat ∧ t.byteAt (b + 10) = s.tq ∧ t.memRead (b + 11) 3 = w.wFrac.toNat ∧
        (∀ x, (x < b ∨ b + 14 ≤ x) → t.byteAt x = s.byteAt x)) ∧
    (s.params.bufSize < b + 14 → exec .hdrGenPlain s = .next (s.errorState (.plain .outOfBounds))) ∧
    (b + 14 ≤ s.params.bufSize → s.hType ∉ [s.params.ftData, s.params.ftCfg, s.params.ftCmd] →
      exec .hdrGenPlain s = .next (s.errorState (.protocol .unknownFrameType (s.hType.setWidth 8)))) ∧
    (b + 14 ≤ s.params.bufSize → s.hType ∈ [s.params.ftData, s.params.ftCfg, s.params.ftCmd] →
      (s.hFrameLen.toNat < 14 ∨ s.timebase.toNat < 1 ∨ 16777216 < s.timebase.toNat ∨ 1000000000 ≤ s.tNs.toNat) →
      exec .hdrGenPlain s = .next (s.errorState (.plain .badArgument)))

/-- HDR.GENSESSION (R217, R216): for a body of L bytes the header bytes are stored at SRC by the layout R210, the
lengths follow the formulas of R216, and nothing else of BUF, the body included, changes. -/
def Obligations.GenSessionStoresHeader : Prop :=
  ∀ (s : State) (alg : SigAlg) (b l inner hdrLen total : Nat) (sq sv : List Byte),
    b = s.src.toNat → l = s.sBodyLen.toNat → sq = s.params.tagSeqAsdu :: minimalHeader l →
    inner = 3 + sq.length + l → sv = s.params.tagSvPdu :: minimalHeader inner →
    hdrLen = 38 + sv.length + 3 + sq.length → total = hdrLen + l + alg.trailerLen →
    s.sSecAlg ∈ s.params.secCodes → sigAlgOf s.params s.sSigAlg = some alg → s.sAsduCount ≠ 0 → l ≤ 65535 →
    inner ≤ 65535 → total ≤ 65535 → s.sCltpLen.toNat + 8 + alg.trailerLen ≤ total → b + total ≤ s.params.bufSize →
    ∃ t, exec .hdrGenSession s = .next t ∧
      t = { s with
        status := statusOf true false resOk
        sSpduLen := BitVec.ofNat 32 (total - s.sCltpLen.toNat - 8 - alg.trailerLen)
        sVersion := 1
        sPayLen := BitVec.ofNat 32 (total - alg.trailerLen - 32)
        sAsduLen := BitVec.ofNat 16 (total - alg.trailerLen - 38)
        hFrameLen := BitVec.ofNat 16 total
        hHdrLen := BitVec.ofNat 16 hdrLen
        hFormat := 2
        hType := s.params.ftData
        buf := t.buf } ∧
      t.bytesAt b 6 = [s.sCltpLen, s.params.cltpTag, 0xA2, 0x18, s.params.rsv0, s.params.rsv1] ∧
      t.memRead (b + 6) 4 = total - s.sCltpLen.toNat - 8 - alg.trailerLen ∧
      t.memRead (b + 10) 4 = s.sPktNum.toNat ∧ t.memRead (b + 14) 2 = 1 ∧
      t.memRead (b + 16) 4 = s.sKeyTime0.toNat ∧ t.memRead (b + 20) 2 = s.sKeyTime1.toNat ∧
      t.byteAt (b + 22) = s.sSecAlg ∧ t.byteAt (b + 23) = s.sSigAlg ∧ t.memRead (b + 24) 4 = s.sKeyId.toNat ∧
      t.memRead (b + 28) 4 = total - alg.trailerLen - 32 ∧ t.byteAt (b + 32) = 0x82 ∧
      t.byteAt (b + 33) = s.sSim ∧ t.memRead (b + 34) 2 = s.sAppId.toNat ∧
      t.memRead (b + 36) 2 = total - alg.trailerLen - 38 ∧
      t.bytesAt (b + 38) (hdrLen - 38) = sv ++ [s.params.tagAsduCount, 1, s.sAsduCount] ++ sq ∧
      (∀ x, (x < b ∨ b + hdrLen ≤ x) → t.byteAt x = s.byteAt x)

/-- HDR.GENSESSION's errors, in the order of the checks of R216 and R217, the bounds of the whole frame last. -/
def Obligations.GenSessionRefusesInOrder : Prop :=
  ∀ (s : State) (l inner : Nat), l = s.sBodyLen.toNat →
    inner = 3 + (1 + (minimalHeader l).length) + l →
    (s.sSecAlg ∉ s.params.secCodes →
      exec .hdrGenSession s = .next (s.errorState (.protocol .unsupportedSecurityAlgorithm s.sSecAlg))) ∧
    (s.sSecAlg ∈ s.params.secCodes → sigAlgOf s.params s.sSigAlg = none →
      exec .hdrGenSession s = .next (s.errorState (.protocol .unsupportedSignatureAlgorithm s.sSigAlg))) ∧
    (∀ alg total, s.sSecAlg ∈ s.params.secCodes → sigAlgOf s.params s.sSigAlg = some alg →
      total = 38 + (1 + (minimalHeader inner).length) + inner + alg.trailerLen →
      (s.sAsduCount = 0 → exec .hdrGenSession s = .next (s.errorState (.protocol .emptyAsduSequence 0))) ∧
      (s.sAsduCount ≠ 0 →
        ((65535 < l ∨ 65535 < inner) →
          exec .hdrGenSession s = .next (s.errorState (.plain .valueTooLarge))) ∧
        (l ≤ 65535 → inner ≤ 65535 →
          (65535 < total → exec .hdrGenSession s = .next (s.errorState (.plain .lengthOverflow))) ∧
          (total ≤ 65535 → total < s.sCltpLen.toNat + 8 + alg.trailerLen →
            exec .hdrGenSession s = .next (s.errorState (.plain .badArgument))) ∧
          (total ≤ 65535 → s.sCltpLen.toNat + 8 + alg.trailerLen ≤ total →
            s.params.bufSize < s.src.toNat + total →
            exec .hdrGenSession s = .next (s.errorState (.plain .outOfBounds))))))

/-- HDR.CMDCHECK (R219): a command frame whose CRC matches is parsed like a plain frame and its CRC kept; otherwise
the first check that fails, in order, is the error; there is no `need` outcome. -/
def Obligations.CmdCheckValidatesCommandFrame : Prop :=
  ∀ (s : State) (b flen : Nat) (c : BitVec 16), b = s.src.toNat → flen = s.memRead (b + 2) 2 →
    c = crc16 s.params (s.bytesAt b (flen - 2)) →
    (s.params.bufSize < b + s.len.toNat → exec .hdrCmdCheck s = .next (s.errorState (.plain .outOfBounds))) ∧
    (b + s.len.toNat ≤ s.params.bufSize →
      (s.len.toNat < 14 → exec .hdrCmdCheck s = .next (s.errorState (.protocol .bufferTooShort 0))) ∧
      (14 ≤ s.len.toNat → s.byteAt b ≠ s.params.syncByte →
        exec .hdrCmdCheck s = .next (s.errorState (.protocol .unknownFormat (s.byteAt b)))) ∧
      (14 ≤ s.len.toNat → s.byteAt b = s.params.syncByte → (s.byteAt (b + 1)).extractLsb' 4 3 ≠ s.params.ftCmd →
        exec .hdrCmdCheck s = .next (s.errorState (.protocol .wrongFrameType (s.byteAt (b + 1))))) ∧
      (14 ≤ s.len.toNat → s.byteAt b = s.params.syncByte → (s.byteAt (b + 1)).extractLsb' 4 3 = s.params.ftCmd →
        (s.len.toNat < flen →
          exec .hdrCmdCheck s = .next (s.errorState (.protocol .frameExceedsBuffer 0))) ∧
        (flen ≤ s.len.toNat → flen < 16 →
          exec .hdrCmdCheck s = .next (s.errorState (.protocol .badFrameLength 0))) ∧
        (flen ≤ s.len.toNat → 16 ≤ flen → s.memRead (b + (flen - 2)) 2 ≠ c.toNat →
          exec .hdrCmdCheck s = .next (s.errorState (.plain .checksumMismatch))) ∧
        (flen ≤ s.len.toNat → 16 ≤ flen → s.memRead (b + (flen - 2)) 2 = c.toNat →
          ((s.timebase.toNat < 1 ∨ 16777216 < s.timebase.toNat) →
            exec .hdrCmdCheck s = .next (s.errorState (.plain .badArgument))) ∧
          (1 ≤ s.timebase.toNat → s.timebase.toNat ≤ 16777216 →
            exec .hdrCmdCheck s = .next { s.withPlainHeader flen with crc := c }))))

/-- A header that HDR.GENPLAIN wrote is parsed by HDR.PARSE back to the registers it was made from, once its frame
has arrived: only the timestamp, recomputed from the wire, may differ (R206, R203). -/
def Obligations.GeneratedPlainHeaderParsesBack : Prop :=
  ∀ (s t : State) (n : Word), exec .hdrGenPlain s = .next t → t.res = resOk → s.hFrameLen.toNat ≤ n.toNat →
    s.src.toNat + n.toNat ≤ s.params.bufSize →
    ∃ u, exec .hdrParse { t with len := n } = .next u ∧
      u = { t with len := n, tSec := u.tSec, tNs := u.tNs }

/-- A session frame made by HDR.GENSESSION, its body, then SIG.GEN is accepted by HDR.PARSE with the same key, which
gives every register back and no signature failure (R162, R218). The frame must not begin with the sync byte,
which selects the plain format (R193). -/
def Obligations.GeneratedSessionFrameParsesBack : Prop :=
  ∀ (s t u : State) (body : List Byte), exec .hdrGenSession s = .next t → t.res = resOk →
    body.length = s.sBodyLen.toNat → s.sCltpLen ≠ s.params.syncByte →
    exec .sigGen { t.writeBytes (s.src.toNat + t.hHdrLen.toNat) body with len := t.hFrameLen.setWidth 32 } =
      .next u → u.res = resOk →
    exec .hdrParse u = .next u

/-- The decoding commands read only the LEN bytes available at SRC (R191): on two states that agree but for BUF bytes
outside them, the outcomes agree but for BUF. -/
def Obligations.DecodersReadOnlyAvailableBytes : Prop :=
  ∀ (i : Instr) (s s' t : State), (i = .hdrDetect ∨ i = .hdrParse ∨ i = .hdrCmdCheck) →
    s' = { s with buf := s'.buf } →
    (∀ o < s.len.toNat, s'.byteAt (s.src.toNat + o) = s.byteAt (s.src.toNat + o)) →
    exec i s = .next t → exec i s' = .next { t with buf := s'.buf }
end

