-- ==== Sys2Proof/Laws/State.lean ====
section
/-! SUPPORT. The small lemmas of the state updates: one per field per update, true by rfl. -/

namespace Sys2Proof.Machine

/-! ## setRes -/

section
variable (s : State) (r : BitVec 2)
@[simp] theorem State.setRes_status : (s.setRes r).status = statusOf s.hdrLenValid s.sigFail r := rfl
@[simp] theorem State.setRes_err : (s.setRes r).err = s.err := rfl
@[simp] theorem State.setRes_need : (s.setRes r).need = s.need := rfl
@[simp] theorem State.setRes_config : (s.setRes r).config = s.config := rfl
@[simp] theorem State.setRes_cur : (s.setRes r).cur = s.cur := rfl
@[simp] theorem State.setRes_lim : (s.setRes r).lim = s.lim := rfl
@[simp] theorem State.setRes_src : (s.setRes r).src = s.src := rfl
@[simp] theorem State.setRes_len : (s.setRes r).len = s.len := rfl
@[simp] theorem State.setRes_valLo : (s.setRes r).valLo = s.valLo := rfl
@[simp] theorem State.setRes_valHi : (s.setRes r).valHi = s.valHi := rfl
@[simp] theorem State.setRes_rlen : (s.setRes r).rlen = s.rlen := rfl
@[simp] theorem State.setRes_raddr : (s.setRes r).raddr = s.raddr := rfl
@[simp] theorem State.setRes_crc : (s.setRes r).crc = s.crc := rfl
@[simp] theorem State.setRes_timebase : (s.setRes r).timebase = s.timebase := rfl
@[simp] theorem State.setRes_fps : (s.setRes r).fps = s.fps := rfl
@[simp] theorem State.setRes_tqMask : (s.setRes r).tqMask = s.tqMask := rfl
@[simp] theorem State.setRes_tSec : (s.setRes r).tSec = s.tSec := rfl
@[simp] theorem State.setRes_tNs : (s.setRes r).tNs = s.tNs := rfl
@[simp] theorem State.setRes_wSoc : (s.setRes r).wSoc = s.wSoc := rfl
@[simp] theorem State.setRes_wFrac : (s.setRes r).wFrac = s.wFrac := rfl
@[simp] theorem State.setRes_tq : (s.setRes r).tq = s.tq := rfl
@[simp] theorem State.setRes_hFormat : (s.setRes r).hFormat = s.hFormat := rfl
@[simp] theorem State.setRes_hType : (s.setRes r).hType = s.hType := rfl
@[simp] theorem State.setRes_hVersion : (s.setRes r).hVersion = s.hVersion := rfl
@[simp] theorem State.setRes_hFrameLen : (s.setRes r).hFrameLen = s.hFrameLen := rfl
@[simp] theorem State.setRes_hIdCode : (s.setRes r).hIdCode = s.hIdCode := rfl
@[simp] theorem State.setRes_hSoc : (s.setRes r).hSoc = s.hSoc := rfl
@[simp] theorem State.setRes_hFracSec : (s.setRes r).hFracSec = s.hFracSec := rfl
@[simp] theorem State.setRes_hHdrLen : (s.setRes r).hHdrLen = s.hHdrLen := rfl
@[simp] theorem State.setRes_sCltpLen : (s.setRes r).sCltpLen = s.sCltpLen := rfl
@[simp] theorem State.setRes_sSpduLen : (s.setRes r).sSpduLen = s.sSpduLen := rfl
@[simp] theorem State.setRes_sPktNum : (s.setRes r).sPktNum = s.sPktNum := rfl
@[simp] theorem State.setRes_sVersion : (s.setRes r).sVersion = s.sVersion := rfl
@[simp] theorem State.setRes_sKeyTime0 : (s.setRes r).sKeyTime0 = s.sKeyTime0 := rfl
@[simp] theorem State.setRes_sKeyTime1 : (s.setRes r).sKeyTime1 = s.sKeyTime1 := rfl
@[simp] theorem State.setRes_sSecAlg : (s.setRes r).sSecAlg = s.sSecAlg := rfl
@[simp] theorem State.setRes_sSigAlg : (s.setRes r).sSigAlg = s.sSigAlg := rfl
@[simp] theorem State.setRes_sKeyId : (s.setRes r).sKeyId = s.sKeyId := rfl
@[simp] theorem State.setRes_sPayLen : (s.setRes r).sPayLen = s.sPayLen := rfl
@[simp] theorem State.setRes_sSim : (s.setRes r).sSim = s.sSim := rfl
@[simp] theorem State.setRes_sAppId : (s.setRes r).sAppId = s.sAppId := rfl
@[simp] theorem State.setRes_sAsduLen : (s.setRes r).sAsduLen = s.sAsduLen := rfl
@[simp] theorem State.setRes_sAsduCount : (s.setRes r).sAsduCount = s.sAsduCount := rfl
@[simp] theorem State.setRes_sBodyLen : (s.setRes r).sBodyLen = s.sBodyLen := rfl
@[simp] theorem State.setRes_keyLen : (s.setRes r).keyLen = s.keyLen := rfl
@[simp] theorem State.setRes_key : (s.setRes r).key = s.key := rfl
@[simp] theorem State.setRes_buf : (s.setRes r).buf = s.buf := rfl
@[simp] theorem State.setRes_pending : (s.setRes r).pending = s.pending := rfl
@[simp] theorem State.setRes_readData : (s.setRes r).readData = s.readData := rfl
@[simp] theorem State.setRes_params : (s.setRes r).params = s.params := rfl
@[simp] theorem State.setRes_resets : (s.setRes r).resets = s.resets := rfl
end

/-! ## setSigFail -/

section
variable (s : State) (b : Bool)
@[simp] theorem State.setSigFail_status : (s.setSigFail b).status = statusOf s.hdrLenValid b s.res := rfl
@[simp] theorem State.setSigFail_err : (s.setSigFail b).err = s.err := rfl
@[simp] theorem State.setSigFail_need : (s.setSigFail b).need = s.need := rfl
@[simp] theorem State.setSigFail_config : (s.setSigFail b).config = s.config := rfl
@[simp] theorem State.setSigFail_cur : (s.setSigFail b).cur = s.cur := rfl
@[simp] theorem State.setSigFail_lim : (s.setSigFail b).lim = s.lim := rfl
@[simp] theorem State.setSigFail_src : (s.setSigFail b).src = s.src := rfl
@[simp] theorem State.setSigFail_len : (s.setSigFail b).len = s.len := rfl
@[simp] theorem State.setSigFail_valLo : (s.setSigFail b).valLo = s.valLo := rfl
@[simp] theorem State.setSigFail_valHi : (s.setSigFail b).valHi = s.valHi := rfl
@[simp] theorem State.setSigFail_rlen : (s.setSigFail b).rlen = s.rlen := rfl
@[simp] theorem State.setSigFail_raddr : (s.setSigFail b).raddr = s.raddr := rfl
@[simp] theorem State.setSigFail_crc : (s.setSigFail b).crc = s.crc := rfl
@[simp] theorem State.setSigFail_timebase : (s.setSigFail b).timebase = s.timebase := rfl
@[simp] theorem State.setSigFail_fps : (s.setSigFail b).fps = s.fps := rfl
@[simp] theorem State.setSigFail_tqMask : (s.setSigFail b).tqMask = s.tqMask := rfl
@[simp] theorem State.setSigFail_tSec : (s.setSigFail b).tSec = s.tSec := rfl
@[simp] theorem State.setSigFail_tNs : (s.setSigFail b).tNs = s.tNs := rfl
@[simp] theorem State.setSigFail_wSoc : (s.setSigFail b).wSoc = s.wSoc := rfl
@[simp] theorem State.setSigFail_wFrac : (s.setSigFail b).wFrac = s.wFrac := rfl
@[simp] theorem State.setSigFail_tq : (s.setSigFail b).tq = s.tq := rfl
@[simp] theorem State.setSigFail_hFormat : (s.setSigFail b).hFormat = s.hFormat := rfl
@[simp] theorem State.setSigFail_hType : (s.setSigFail b).hType = s.hType := rfl
@[simp] theorem State.setSigFail_hVersion : (s.setSigFail b).hVersion = s.hVersion := rfl
@[simp] theorem State.setSigFail_hFrameLen : (s.setSigFail b).hFrameLen = s.hFrameLen := rfl
@[simp] theorem State.setSigFail_hIdCode : (s.setSigFail b).hIdCode = s.hIdCode := rfl
@[simp] theorem State.setSigFail_hSoc : (s.setSigFail b).hSoc = s.hSoc := rfl
@[simp] theorem State.setSigFail_hFracSec : (s.setSigFail b).hFracSec = s.hFracSec := rfl
@[simp] theorem State.setSigFail_hHdrLen : (s.setSigFail b).hHdrLen = s.hHdrLen := rfl
@[simp] theorem State.setSigFail_sCltpLen : (s.setSigFail b).sCltpLen = s.sCltpLen := rfl
@[simp] theorem State.setSigFail_sSpduLen : (s.setSigFail b).sSpduLen = s.sSpduLen := rfl
@[simp] theorem State.setSigFail_sPktNum : (s.setSigFail b).sPktNum = s.sPktNum := rfl
@[simp] theorem State.setSigFail_sVersion : (s.setSigFail b).sVersion = s.sVersion := rfl
@[simp] theorem State.setSigFail_sKeyTime0 : (s.setSigFail b).sKeyTime0 = s.sKeyTime0 := rfl
@[simp] theorem State.setSigFail_sKeyTime1 : (s.setSigFail b).sKeyTime1 = s.sKeyTime1 := rfl
@[simp] theorem State.setSigFail_sSecAlg : (s.setSigFail b).sSecAlg = s.sSecAlg := rfl
@[simp] theorem State.setSigFail_sSigAlg : (s.setSigFail b).sSigAlg = s.sSigAlg := rfl
@[simp] theorem State.setSigFail_sKeyId : (s.setSigFail b).sKeyId = s.sKeyId := rfl
@[simp] theorem State.setSigFail_sPayLen : (s.setSigFail b).sPayLen = s.sPayLen := rfl
@[simp] theorem State.setSigFail_sSim : (s.setSigFail b).sSim = s.sSim := rfl
@[simp] theorem State.setSigFail_sAppId : (s.setSigFail b).sAppId = s.sAppId := rfl
@[simp] theorem State.setSigFail_sAsduLen : (s.setSigFail b).sAsduLen = s.sAsduLen := rfl
@[simp] theorem State.setSigFail_sAsduCount : (s.setSigFail b).sAsduCount = s.sAsduCount := rfl
@[simp] theorem State.setSigFail_sBodyLen : (s.setSigFail b).sBodyLen = s.sBodyLen := rfl
@[simp] theorem State.setSigFail_keyLen : (s.setSigFail b).keyLen = s.keyLen := rfl
@[simp] theorem State.setSigFail_key : (s.setSigFail b).key = s.key := rfl
@[simp] theorem State.setSigFail_buf : (s.setSigFail b).buf = s.buf := rfl
@[simp] theorem State.setSigFail_pending : (s.setSigFail b).pending = s.pending := rfl
@[simp] theorem State.setSigFail_readData : (s.setSigFail b).readData = s.readData := rfl
@[simp] theorem State.setSigFail_params : (s.setSigFail b).params = s.params := rfl
@[simp] theorem State.setSigFail_resets : (s.setSigFail b).resets = s.resets := rfl
end

/-! ## setHdrLenValid -/

section
variable (s : State) (b : Bool)
@[simp] theorem State.setHdrLenValid_status : (s.setHdrLenValid b).status = statusOf b s.sigFail s.res := rfl
@[simp] theorem State.setHdrLenValid_err : (s.setHdrLenValid b).err = s.err := rfl
@[simp] theorem State.setHdrLenValid_need : (s.setHdrLenValid b).need = s.need := rfl
@[simp] theorem State.setHdrLenValid_config : (s.setHdrLenValid b).config = s.config := rfl
@[simp] theorem State.setHdrLenValid_cur : (s.setHdrLenValid b).cur = s.cur := rfl
@[simp] theorem State.setHdrLenValid_lim : (s.setHdrLenValid b).lim = s.lim := rfl
@[simp] theorem State.setHdrLenValid_src : (s.setHdrLenValid b).src = s.src := rfl
@[simp] theorem State.setHdrLenValid_len : (s.setHdrLenValid b).len = s.len := rfl
@[simp] theorem State.setHdrLenValid_valLo : (s.setHdrLenValid b).valLo = s.valLo := rfl
@[simp] theorem State.setHdrLenValid_valHi : (s.setHdrLenValid b).valHi = s.valHi := rfl
@[simp] theorem State.setHdrLenValid_rlen : (s.setHdrLenValid b).rlen = s.rlen := rfl
@[simp] theorem State.setHdrLenValid_raddr : (s.setHdrLenValid b).raddr = s.raddr := rfl
@[simp] theorem State.setHdrLenValid_crc : (s.setHdrLenValid b).crc = s.crc := rfl
@[simp] theorem State.setHdrLenValid_timebase : (s.setHdrLenValid b).timebase = s.timebase := rfl
@[simp] theorem State.setHdrLenValid_fps : (s.setHdrLenValid b).fps = s.fps := rfl
@[simp] theorem State.setHdrLenValid_tqMask : (s.setHdrLenValid b).tqMask = s.tqMask := rfl
@[simp] theorem State.setHdrLenValid_tSec : (s.setHdrLenValid b).tSec = s.tSec := rfl
@[simp] theorem State.setHdrLenValid_tNs : (s.setHdrLenValid b).tNs = s.tNs := rfl
@[simp] theorem State.setHdrLenValid_wSoc : (s.setHdrLenValid b).wSoc = s.wSoc := rfl
@[simp] theorem State.setHdrLenValid_wFrac : (s.setHdrLenValid b).wFrac = s.wFrac := rfl
@[simp] theorem State.setHdrLenValid_tq : (s.setHdrLenValid b).tq = s.tq := rfl
@[simp] theorem State.setHdrLenValid_hFormat : (s.setHdrLenValid b).hFormat = s.hFormat := rfl
@[simp] theorem State.setHdrLenValid_hType : (s.setHdrLenValid b).hType = s.hType := rfl
@[simp] theorem State.setHdrLenValid_hVersion : (s.setHdrLenValid b).hVersion = s.hVersion := rfl
@[simp] theorem State.setHdrLenValid_hFrameLen : (s.setHdrLenValid b).hFrameLen = s.hFrameLen := rfl
@[simp] theorem State.setHdrLenValid_hIdCode : (s.setHdrLenValid b).hIdCode = s.hIdCode := rfl
@[simp] theorem State.setHdrLenValid_hSoc : (s.setHdrLenValid b).hSoc = s.hSoc := rfl
@[simp] theorem State.setHdrLenValid_hFracSec : (s.setHdrLenValid b).hFracSec = s.hFracSec := rfl
@[simp] theorem State.setHdrLenValid_hHdrLen : (s.setHdrLenValid b).hHdrLen = s.hHdrLen := rfl
@[simp] theorem State.setHdrLenValid_sCltpLen : (s.setHdrLenValid b).sCltpLen = s.sCltpLen := rfl
@[simp] theorem State.setHdrLenValid_sSpduLen : (s.setHdrLenValid b).sSpduLen = s.sSpduLen := rfl
@[simp] theorem State.setHdrLenValid_sPktNum : (s.setHdrLenValid b).sPktNum = s.sPktNum := rfl
@[simp] theorem State.setHdrLenValid_sVersion : (s.setHdrLenValid b).sVersion = s.sVersion := rfl
@[simp] theorem State.setHdrLenValid_sKeyTime0 : (s.setHdrLenValid b).sKeyTime0 = s.sKeyTime0 := rfl
@[simp] theorem State.setHdrLenValid_sKeyTime1 : (s.setHdrLenValid b).sKeyTime1 = s.sKeyTime1 := rfl
@[simp] theorem State.setHdrLenValid_sSecAlg : (s.setHdrLenValid b).sSecAlg = s.sSecAlg := rfl
@[simp] theorem State.setHdrLenValid_sSigAlg : (s.setHdrLenValid b).sSigAlg = s.sSigAlg := rfl
@[simp] theorem State.setHdrLenValid_sKeyId : (s.setHdrLenValid b).sKeyId = s.sKeyId := rfl
@[simp] theorem State.setHdrLenValid_sPayLen : (s.setHdrLenValid b).sPayLen = s.sPayLen := rfl
@[simp] theorem State.setHdrLenValid_sSim : (s.setHdrLenValid b).sSim = s.sSim := rfl
@[simp] theorem State.setHdrLenValid_sAppId : (s.setHdrLenValid b).sAppId = s.sAppId := rfl
@[simp] theorem State.setHdrLenValid_sAsduLen : (s.setHdrLenValid b).sAsduLen = s.sAsduLen := rfl
@[simp] theorem State.setHdrLenValid_sAsduCount : (s.setHdrLenValid b).sAsduCount = s.sAsduCount := rfl
@[simp] theorem State.setHdrLenValid_sBodyLen : (s.setHdrLenValid b).sBodyLen = s.sBodyLen := rfl
@[simp] theorem State.setHdrLenValid_keyLen : (s.setHdrLenValid b).keyLen = s.keyLen := rfl
@[simp] theorem State.setHdrLenValid_key : (s.setHdrLenValid b).key = s.key := rfl
@[simp] theorem State.setHdrLenValid_buf : (s.setHdrLenValid b).buf = s.buf := rfl
@[simp] theorem State.setHdrLenValid_pending : (s.setHdrLenValid b).pending = s.pending := rfl
@[simp] theorem State.setHdrLenValid_readData : (s.setHdrLenValid b).readData = s.readData := rfl
@[simp] theorem State.setHdrLenValid_params : (s.setHdrLenValid b).params = s.params := rfl
@[simp] theorem State.setHdrLenValid_resets : (s.setHdrLenValid b).resets = s.resets := rfl
end

/-! ## finishNeed -/

section
variable (s : State) (n : Nat)
@[simp] theorem State.finishNeed_status : (s.finishNeed n).status = statusOf s.hdrLenValid s.sigFail resNeedMore := rfl
@[simp] theorem State.finishNeed_err : (s.finishNeed n).err = s.err := rfl
@[simp] theorem State.finishNeed_need : (s.finishNeed n).need = BitVec.ofNat 32 n := rfl
@[simp] theorem State.finishNeed_config : (s.finishNeed n).config = s.config := rfl
@[simp] theorem State.finishNeed_cur : (s.finishNeed n).cur = s.cur := rfl
@[simp] theorem State.finishNeed_lim : (s.finishNeed n).lim = s.lim := rfl
@[simp] theorem State.finishNeed_src : (s.finishNeed n).src = s.src := rfl
@[simp] theorem State.finishNeed_len : (s.finishNeed n).len = s.len := rfl
@[simp] theorem State.finishNeed_valLo : (s.finishNeed n).valLo = s.valLo := rfl
@[simp] theorem State.finishNeed_valHi : (s.finishNeed n).valHi = s.valHi := rfl
@[simp] theorem State.finishNeed_rlen : (s.finishNeed n).rlen = s.rlen := rfl
@[simp] theorem State.finishNeed_raddr : (s.finishNeed n).raddr = s.raddr := rfl
@[simp] theorem State.finishNeed_crc : (s.finishNeed n).crc = s.crc := rfl
@[simp] theorem State.finishNeed_timebase : (s.finishNeed n).timebase = s.timebase := rfl
@[simp] theorem State.finishNeed_fps : (s.finishNeed n).fps = s.fps := rfl
@[simp] theorem State.finishNeed_tqMask : (s.finishNeed n).tqMask = s.tqMask := rfl
@[simp] theorem State.finishNeed_tSec : (s.finishNeed n).tSec = s.tSec := rfl
@[simp] theorem State.finishNeed_tNs : (s.finishNeed n).tNs = s.tNs := rfl
@[simp] theorem State.finishNeed_wSoc : (s.finishNeed n).wSoc = s.wSoc := rfl
@[simp] theorem State.finishNeed_wFrac : (s.finishNeed n).wFrac = s.wFrac := rfl
@[simp] theorem State.finishNeed_tq : (s.finishNeed n).tq = s.tq := rfl
@[simp] theorem State.finishNeed_hFormat : (s.finishNeed n).hFormat = s.hFormat := rfl
@[simp] theorem State.finishNeed_hType : (s.finishNeed n).hType = s.hType := rfl
@[simp] theorem State.finishNeed_hVersion : (s.finishNeed n).hVersion = s.hVersion := rfl
@[simp] theorem State.finishNeed_hFrameLen : (s.finishNeed n).hFrameLen = s.hFrameLen := rfl
@[simp] theorem State.finishNeed_hIdCode : (s.finishNeed n).hIdCode = s.hIdCode := rfl
@[simp] theorem State.finishNeed_hSoc : (s.finishNeed n).hSoc = s.hSoc := rfl
@[simp] theorem State.finishNeed_hFracSec : (s.finishNeed n).hFracSec = s.hFracSec := rfl
@[simp] theorem State.finishNeed_hHdrLen : (s.finishNeed n).hHdrLen = s.hHdrLen := rfl
@[simp] theorem State.finishNeed_sCltpLen : (s.finishNeed n).sCltpLen = s.sCltpLen := rfl
@[simp] theorem State.finishNeed_sSpduLen : (s.finishNeed n).sSpduLen = s.sSpduLen := rfl
@[simp] theorem State.finishNeed_sPktNum : (s.finishNeed n).sPktNum = s.sPktNum := rfl
@[simp] theorem State.finishNeed_sVersion : (s.finishNeed n).sVersion = s.sVersion := rfl
@[simp] theorem State.finishNeed_sKeyTime0 : (s.finishNeed n).sKeyTime0 = s.sKeyTime0 := rfl
@[simp] theorem State.finishNeed_sKeyTime1 : (s.finishNeed n).sKeyTime1 = s.sKeyTime1 := rfl
@[simp] theorem State.finishNeed_sSecAlg : (s.finishNeed n).sSecAlg = s.sSecAlg := rfl
@[simp] theorem State.finishNeed_sSigAlg : (s.finishNeed n).sSigAlg = s.sSigAlg := rfl
@[simp] theorem State.finishNeed_sKeyId : (s.finishNeed n).sKeyId = s.sKeyId := rfl
@[simp] theorem State.finishNeed_sPayLen : (s.finishNeed n).sPayLen = s.sPayLen := rfl
@[simp] theorem State.finishNeed_sSim : (s.finishNeed n).sSim = s.sSim := rfl
@[simp] theorem State.finishNeed_sAppId : (s.finishNeed n).sAppId = s.sAppId := rfl
@[simp] theorem State.finishNeed_sAsduLen : (s.finishNeed n).sAsduLen = s.sAsduLen := rfl
@[simp] theorem State.finishNeed_sAsduCount : (s.finishNeed n).sAsduCount = s.sAsduCount := rfl
@[simp] theorem State.finishNeed_sBodyLen : (s.finishNeed n).sBodyLen = s.sBodyLen := rfl
@[simp] theorem State.finishNeed_keyLen : (s.finishNeed n).keyLen = s.keyLen := rfl
@[simp] theorem State.finishNeed_key : (s.finishNeed n).key = s.key := rfl
@[simp] theorem State.finishNeed_buf : (s.finishNeed n).buf = s.buf := rfl
@[simp] theorem State.finishNeed_pending : (s.finishNeed n).pending = s.pending := rfl
@[simp] theorem State.finishNeed_readData : (s.finishNeed n).readData = s.readData := rfl
@[simp] theorem State.finishNeed_params : (s.finishNeed n).params = s.params := rfl
@[simp] theorem State.finishNeed_resets : (s.finishNeed n).resets = s.resets := rfl
end

/-! ## finishError -/

section
variable (s : State) (e : CmdError)
@[simp] theorem State.finishError_status : (s.finishError e).status = statusOf s.hdrLenValid s.sigFail resError := rfl
@[simp] theorem State.finishError_err : (s.finishError e).err = e.word := rfl
@[simp] theorem State.finishError_need : (s.finishError e).need = s.need := rfl
@[simp] theorem State.finishError_config : (s.finishError e).config = s.config := rfl
@[simp] theorem State.finishError_cur : (s.finishError e).cur = s.cur := rfl
@[simp] theorem State.finishError_lim : (s.finishError e).lim = s.lim := rfl
@[simp] theorem State.finishError_src : (s.finishError e).src = s.src := rfl
@[simp] theorem State.finishError_len : (s.finishError e).len = s.len := rfl
@[simp] theorem State.finishError_valLo : (s.finishError e).valLo = s.valLo := rfl
@[simp] theorem State.finishError_valHi : (s.finishError e).valHi = s.valHi := rfl
@[simp] theorem State.finishError_rlen : (s.finishError e).rlen = s.rlen := rfl
@[simp] theorem State.finishError_raddr : (s.finishError e).raddr = s.raddr := rfl
@[simp] theorem State.finishError_crc : (s.finishError e).crc = s.crc := rfl
@[simp] theorem State.finishError_timebase : (s.finishError e).timebase = s.timebase := rfl
@[simp] theorem State.finishError_fps : (s.finishError e).fps = s.fps := rfl
@[simp] theorem State.finishError_tqMask : (s.finishError e).tqMask = s.tqMask := rfl
@[simp] theorem State.finishError_tSec : (s.finishError e).tSec = s.tSec := rfl
@[simp] theorem State.finishError_tNs : (s.finishError e).tNs = s.tNs := rfl
@[simp] theorem State.finishError_wSoc : (s.finishError e).wSoc = s.wSoc := rfl
@[simp] theorem State.finishError_wFrac : (s.finishError e).wFrac = s.wFrac := rfl
@[simp] theorem State.finishError_tq : (s.finishError e).tq = s.tq := rfl
@[simp] theorem State.finishError_hFormat : (s.finishError e).hFormat = s.hFormat := rfl
@[simp] theorem State.finishError_hType : (s.finishError e).hType = s.hType := rfl
@[simp] theorem State.finishError_hVersion : (s.finishError e).hVersion = s.hVersion := rfl
@[simp] theorem State.finishError_hFrameLen : (s.finishError e).hFrameLen = s.hFrameLen := rfl
@[simp] theorem State.finishError_hIdCode : (s.finishError e).hIdCode = s.hIdCode := rfl
@[simp] theorem State.finishError_hSoc : (s.finishError e).hSoc = s.hSoc := rfl
@[simp] theorem State.finishError_hFracSec : (s.finishError e).hFracSec = s.hFracSec := rfl
@[simp] theorem State.finishError_hHdrLen : (s.finishError e).hHdrLen = s.hHdrLen := rfl
@[simp] theorem State.finishError_sCltpLen : (s.finishError e).sCltpLen = s.sCltpLen := rfl
@[simp] theorem State.finishError_sSpduLen : (s.finishError e).sSpduLen = s.sSpduLen := rfl
@[simp] theorem State.finishError_sPktNum : (s.finishError e).sPktNum = s.sPktNum := rfl
@[simp] theorem State.finishError_sVersion : (s.finishError e).sVersion = s.sVersion := rfl
@[simp] theorem State.finishError_sKeyTime0 : (s.finishError e).sKeyTime0 = s.sKeyTime0 := rfl
@[simp] theorem State.finishError_sKeyTime1 : (s.finishError e).sKeyTime1 = s.sKeyTime1 := rfl
@[simp] theorem State.finishError_sSecAlg : (s.finishError e).sSecAlg = s.sSecAlg := rfl
@[simp] theorem State.finishError_sSigAlg : (s.finishError e).sSigAlg = s.sSigAlg := rfl
@[simp] theorem State.finishError_sKeyId : (s.finishError e).sKeyId = s.sKeyId := rfl
@[simp] theorem State.finishError_sPayLen : (s.finishError e).sPayLen = s.sPayLen := rfl
@[simp] theorem State.finishError_sSim : (s.finishError e).sSim = s.sSim := rfl
@[simp] theorem State.finishError_sAppId : (s.finishError e).sAppId = s.sAppId := rfl
@[simp] theorem State.finishError_sAsduLen : (s.finishError e).sAsduLen = s.sAsduLen := rfl
@[simp] theorem State.finishError_sAsduCount : (s.finishError e).sAsduCount = s.sAsduCount := rfl
@[simp] theorem State.finishError_sBodyLen : (s.finishError e).sBodyLen = s.sBodyLen := rfl
@[simp] theorem State.finishError_keyLen : (s.finishError e).keyLen = s.keyLen := rfl
@[simp] theorem State.finishError_key : (s.finishError e).key = s.key := rfl
@[simp] theorem State.finishError_buf : (s.finishError e).buf = s.buf := rfl
@[simp] theorem State.finishError_pending : (s.finishError e).pending = s.pending := rfl
@[simp] theorem State.finishError_readData : (s.finishError e).readData = s.readData := rfl
@[simp] theorem State.finishError_params : (s.finishError e).params = s.params := rfl
@[simp] theorem State.finishError_resets : (s.finishError e).resets = s.resets := rfl
end

/-! ## writeBytes -/

section
variable (s : State) (a : Nat) (bs : List Byte)
@[simp] theorem State.writeBytes_status : (s.writeBytes a bs).status = s.status := rfl
@[simp] theorem State.writeBytes_err : (s.writeBytes a bs).err = s.err := rfl
@[simp] theorem State.writeBytes_need : (s.writeBytes a bs).need = s.need := rfl
@[simp] theorem State.writeBytes_config : (s.writeBytes a bs).config = s.config := rfl
@[simp] theorem State.writeBytes_cur : (s.writeBytes a bs).cur = s.cur := rfl
@[simp] theorem State.writeBytes_lim : (s.writeBytes a bs).lim = s.lim := rfl
@[simp] theorem State.writeBytes_src : (s.writeBytes a bs).src = s.src := rfl
@[simp] theorem State.writeBytes_len : (s.writeBytes a bs).len = s.len := rfl
@[simp] theorem State.writeBytes_valLo : (s.writeBytes a bs).valLo = s.valLo := rfl
@[simp] theorem State.writeBytes_valHi : (s.writeBytes a bs).valHi = s.valHi := rfl
@[simp] theorem State.writeBytes_rlen : (s.writeBytes a bs).rlen = s.rlen := rfl
@[simp] theorem State.writeBytes_raddr : (s.writeBytes a bs).raddr = s.raddr := rfl
@[simp] theorem State.writeBytes_crc : (s.writeBytes a bs).crc = s.crc := rfl
@[simp] theorem State.writeBytes_timebase : (s.writeBytes a bs).timebase = s.timebase := rfl
@[simp] theorem State.writeBytes_fps : (s.writeBytes a bs).fps = s.fps := rfl
@[simp] theorem State.writeBytes_tqMask : (s.writeBytes a bs).tqMask = s.tqMask := rfl
@[simp] theorem State.writeBytes_tSec : (s.writeBytes a bs).tSec = s.tSec := rfl
@[simp] theorem State.writeBytes_tNs : (s.writeBytes a bs).tNs = s.tNs := rfl
@[simp] theorem State.writeBytes_wSoc : (s.writeBytes a bs).wSoc = s.wSoc := rfl
@[simp] theorem State.writeBytes_wFrac : (s.writeBytes a bs).wFrac = s.wFrac := rfl
@[simp] theorem State.writeBytes_tq : (s.writeBytes a bs).tq = s.tq := rfl
@[simp] theorem State.writeBytes_hFormat : (s.writeBytes a bs).hFormat = s.hFormat := rfl
@[simp] theorem State.writeBytes_hType : (s.writeBytes a bs).hType = s.hType := rfl
@[simp] theorem State.writeBytes_hVersion : (s.writeBytes a bs).hVersion = s.hVersion := rfl
@[simp] theorem State.writeBytes_hFrameLen : (s.writeBytes a bs).hFrameLen = s.hFrameLen := rfl
@[simp] theorem State.writeBytes_hIdCode : (s.writeBytes a bs).hIdCode = s.hIdCode := rfl
@[simp] theorem State.writeBytes_hSoc : (s.writeBytes a bs).hSoc = s.hSoc := rfl
@[simp] theorem State.writeBytes_hFracSec : (s.writeBytes a bs).hFracSec = s.hFracSec := rfl
@[simp] theorem State.writeBytes_hHdrLen : (s.writeBytes a bs).hHdrLen = s.hHdrLen := rfl
@[simp] theorem State.writeBytes_sCltpLen : (s.writeBytes a bs).sCltpLen = s.sCltpLen := rfl
@[simp] theorem State.writeBytes_sSpduLen : (s.writeBytes a bs).sSpduLen = s.sSpduLen := rfl
@[simp] theorem State.writeBytes_sPktNum : (s.writeBytes a bs).sPktNum = s.sPktNum := rfl
@[simp] theorem State.writeBytes_sVersion : (s.writeBytes a bs).sVersion = s.sVersion := rfl
@[simp] theorem State.writeBytes_sKeyTime0 : (s.writeBytes a bs).sKeyTime0 = s.sKeyTime0 := rfl
@[simp] theorem State.writeBytes_sKeyTime1 : (s.writeBytes a bs).sKeyTime1 = s.sKeyTime1 := rfl
@[simp] theorem State.writeBytes_sSecAlg : (s.writeBytes a bs).sSecAlg = s.sSecAlg := rfl
@[simp] theorem State.writeBytes_sSigAlg : (s.writeBytes a bs).sSigAlg = s.sSigAlg := rfl
@[simp] theorem State.writeBytes_sKeyId : (s.writeBytes a bs).sKeyId = s.sKeyId := rfl
@[simp] theorem State.writeBytes_sPayLen : (s.writeBytes a bs).sPayLen = s.sPayLen := rfl
@[simp] theorem State.writeBytes_sSim : (s.writeBytes a bs).sSim = s.sSim := rfl
@[simp] theorem State.writeBytes_sAppId : (s.writeBytes a bs).sAppId = s.sAppId := rfl
@[simp] theorem State.writeBytes_sAsduLen : (s.writeBytes a bs).sAsduLen = s.sAsduLen := rfl
@[simp] theorem State.writeBytes_sAsduCount : (s.writeBytes a bs).sAsduCount = s.sAsduCount := rfl
@[simp] theorem State.writeBytes_sBodyLen : (s.writeBytes a bs).sBodyLen = s.sBodyLen := rfl
@[simp] theorem State.writeBytes_keyLen : (s.writeBytes a bs).keyLen = s.keyLen := rfl
@[simp] theorem State.writeBytes_key : (s.writeBytes a bs).key = s.key := rfl
@[simp] theorem State.writeBytes_buf : (s.writeBytes a bs).buf = Memory.writeBytes s.buf a bs := rfl
@[simp] theorem State.writeBytes_pending : (s.writeBytes a bs).pending = s.pending := rfl
@[simp] theorem State.writeBytes_readData : (s.writeBytes a bs).readData = s.readData := rfl
@[simp] theorem State.writeBytes_params : (s.writeBytes a bs).params = s.params := rfl
@[simp] theorem State.writeBytes_resets : (s.writeBytes a bs).resets = s.resets := rfl
end

/-! ## setVal -/

section
variable (s : State) (v : Nat)
@[simp] theorem State.setVal_status : (s.setVal v).status = s.status := rfl
@[simp] theorem State.setVal_err : (s.setVal v).err = s.err := rfl
@[simp] theorem State.setVal_need : (s.setVal v).need = s.need := rfl
@[simp] theorem State.setVal_config : (s.setVal v).config = s.config := rfl
@[simp] theorem State.setVal_cur : (s.setVal v).cur = s.cur := rfl
@[simp] theorem State.setVal_lim : (s.setVal v).lim = s.lim := rfl
@[simp] theorem State.setVal_src : (s.setVal v).src = s.src := rfl
@[simp] theorem State.setVal_len : (s.setVal v).len = s.len := rfl
@[simp] theorem State.setVal_valLo : (s.setVal v).valLo = BitVec.ofNat 32 v := rfl
@[simp] theorem State.setVal_valHi : (s.setVal v).valHi = BitVec.ofNat 32 (v >>> 32) := rfl
@[simp] theorem State.setVal_rlen : (s.setVal v).rlen = s.rlen := rfl
@[simp] theorem State.setVal_raddr : (s.setVal v).raddr = s.raddr := rfl
@[simp] theorem State.setVal_crc : (s.setVal v).crc = s.crc := rfl
@[simp] theorem State.setVal_timebase : (s.setVal v).timebase = s.timebase := rfl
@[simp] theorem State.setVal_fps : (s.setVal v).fps = s.fps := rfl
@[simp] theorem State.setVal_tqMask : (s.setVal v).tqMask = s.tqMask := rfl
@[simp] theorem State.setVal_tSec : (s.setVal v).tSec = s.tSec := rfl
@[simp] theorem State.setVal_tNs : (s.setVal v).tNs = s.tNs := rfl
@[simp] theorem State.setVal_wSoc : (s.setVal v).wSoc = s.wSoc := rfl
@[simp] theorem State.setVal_wFrac : (s.setVal v).wFrac = s.wFrac := rfl
@[simp] theorem State.setVal_tq : (s.setVal v).tq = s.tq := rfl
@[simp] theorem State.setVal_hFormat : (s.setVal v).hFormat = s.hFormat := rfl
@[simp] theorem State.setVal_hType : (s.setVal v).hType = s.hType := rfl
@[simp] theorem State.setVal_hVersion : (s.setVal v).hVersion = s.hVersion := rfl
@[simp] theorem State.setVal_hFrameLen : (s.setVal v).hFrameLen = s.hFrameLen := rfl
@[simp] theorem State.setVal_hIdCode : (s.setVal v).hIdCode = s.hIdCode := rfl
@[simp] theorem State.setVal_hSoc : (s.setVal v).hSoc = s.hSoc := rfl
@[simp] theorem State.setVal_hFracSec : (s.setVal v).hFracSec = s.hFracSec := rfl
@[simp] theorem State.setVal_hHdrLen : (s.setVal v).hHdrLen = s.hHdrLen := rfl
@[simp] theorem State.setVal_sCltpLen : (s.setVal v).sCltpLen = s.sCltpLen := rfl
@[simp] theorem State.setVal_sSpduLen : (s.setVal v).sSpduLen = s.sSpduLen := rfl
@[simp] theorem State.setVal_sPktNum : (s.setVal v).sPktNum = s.sPktNum := rfl
@[simp] theorem State.setVal_sVersion : (s.setVal v).sVersion = s.sVersion := rfl
@[simp] theorem State.setVal_sKeyTime0 : (s.setVal v).sKeyTime0 = s.sKeyTime0 := rfl
@[simp] theorem State.setVal_sKeyTime1 : (s.setVal v).sKeyTime1 = s.sKeyTime1 := rfl
@[simp] theorem State.setVal_sSecAlg : (s.setVal v).sSecAlg = s.sSecAlg := rfl
@[simp] theorem State.setVal_sSigAlg : (s.setVal v).sSigAlg = s.sSigAlg := rfl
@[simp] theorem State.setVal_sKeyId : (s.setVal v).sKeyId = s.sKeyId := rfl
@[simp] theorem State.setVal_sPayLen : (s.setVal v).sPayLen = s.sPayLen := rfl
@[simp] theorem State.setVal_sSim : (s.setVal v).sSim = s.sSim := rfl
@[simp] theorem State.setVal_sAppId : (s.setVal v).sAppId = s.sAppId := rfl
@[simp] theorem State.setVal_sAsduLen : (s.setVal v).sAsduLen = s.sAsduLen := rfl
@[simp] theorem State.setVal_sAsduCount : (s.setVal v).sAsduCount = s.sAsduCount := rfl
@[simp] theorem State.setVal_sBodyLen : (s.setVal v).sBodyLen = s.sBodyLen := rfl
@[simp] theorem State.setVal_keyLen : (s.setVal v).keyLen = s.keyLen := rfl
@[simp] theorem State.setVal_key : (s.setVal v).key = s.key := rfl
@[simp] theorem State.setVal_buf : (s.setVal v).buf = s.buf := rfl
@[simp] theorem State.setVal_pending : (s.setVal v).pending = s.pending := rfl
@[simp] theorem State.setVal_readData : (s.setVal v).readData = s.readData := rfl
@[simp] theorem State.setVal_params : (s.setVal v).params = s.params := rfl
@[simp] theorem State.setVal_resets : (s.setVal v).resets = s.resets := rfl
end

/-! ## setWire -/

section
variable (s : State) (w : WireTime)
@[simp] theorem State.setWire_status : (s.setWire w).status = s.status := rfl
@[simp] theorem State.setWire_err : (s.setWire w).err = s.err := rfl
@[simp] theorem State.setWire_need : (s.setWire w).need = s.need := rfl
@[simp] theorem State.setWire_config : (s.setWire w).config = s.config := rfl
@[simp] theorem State.setWire_cur : (s.setWire w).cur = s.cur := rfl
@[simp] theorem State.setWire_lim : (s.setWire w).lim = s.lim := rfl
@[simp] theorem State.setWire_src : (s.setWire w).src = s.src := rfl
@[simp] theorem State.setWire_len : (s.setWire w).len = s.len := rfl
@[simp] theorem State.setWire_valLo : (s.setWire w).valLo = s.valLo := rfl
@[simp] theorem State.setWire_valHi : (s.setWire w).valHi = s.valHi := rfl
@[simp] theorem State.setWire_rlen : (s.setWire w).rlen = s.rlen := rfl
@[simp] theorem State.setWire_raddr : (s.setWire w).raddr = s.raddr := rfl
@[simp] theorem State.setWire_crc : (s.setWire w).crc = s.crc := rfl
@[simp] theorem State.setWire_timebase : (s.setWire w).timebase = s.timebase := rfl
@[simp] theorem State.setWire_fps : (s.setWire w).fps = s.fps := rfl
@[simp] theorem State.setWire_tqMask : (s.setWire w).tqMask = s.tqMask := rfl
@[simp] theorem State.setWire_tSec : (s.setWire w).tSec = s.tSec := rfl
@[simp] theorem State.setWire_tNs : (s.setWire w).tNs = s.tNs := rfl
@[simp] theorem State.setWire_wSoc : (s.setWire w).wSoc = BitVec.ofNat 32 w.soc := rfl
@[simp] theorem State.setWire_wFrac : (s.setWire w).wFrac = BitVec.ofNat 32 w.frac := rfl
@[simp] theorem State.setWire_tq : (s.setWire w).tq = s.tq := rfl
@[simp] theorem State.setWire_hFormat : (s.setWire w).hFormat = s.hFormat := rfl
@[simp] theorem State.setWire_hType : (s.setWire w).hType = s.hType := rfl
@[simp] theorem State.setWire_hVersion : (s.setWire w).hVersion = s.hVersion := rfl
@[simp] theorem State.setWire_hFrameLen : (s.setWire w).hFrameLen = s.hFrameLen := rfl
@[simp] theorem State.setWire_hIdCode : (s.setWire w).hIdCode = s.hIdCode := rfl
@[simp] theorem State.setWire_hSoc : (s.setWire w).hSoc = s.hSoc := rfl
@[simp] theorem State.setWire_hFracSec : (s.setWire w).hFracSec = s.hFracSec := rfl
@[simp] theorem State.setWire_hHdrLen : (s.setWire w).hHdrLen = s.hHdrLen := rfl
@[simp] theorem State.setWire_sCltpLen : (s.setWire w).sCltpLen = s.sCltpLen := rfl
@[simp] theorem State.setWire_sSpduLen : (s.setWire w).sSpduLen = s.sSpduLen := rfl
@[simp] theorem State.setWire_sPktNum : (s.setWire w).sPktNum = s.sPktNum := rfl
@[simp] theorem State.setWire_sVersion : (s.setWire w).sVersion = s.sVersion := rfl
@[simp] theorem State.setWire_sKeyTime0 : (s.setWire w).sKeyTime0 = s.sKeyTime0 := rfl
@[simp] theorem State.setWire_sKeyTime1 : (s.setWire w).sKeyTime1 = s.sKeyTime1 := rfl
@[simp] theorem State.setWire_sSecAlg : (s.setWire w).sSecAlg = s.sSecAlg := rfl
@[simp] theorem State.setWire_sSigAlg : (s.setWire w).sSigAlg = s.sSigAlg := rfl
@[simp] theorem State.setWire_sKeyId : (s.setWire w).sKeyId = s.sKeyId := rfl
@[simp] theorem State.setWire_sPayLen : (s.setWire w).sPayLen = s.sPayLen := rfl
@[simp] theorem State.setWire_sSim : (s.setWire w).sSim = s.sSim := rfl
@[simp] theorem State.setWire_sAppId : (s.setWire w).sAppId = s.sAppId := rfl
@[simp] theorem State.setWire_sAsduLen : (s.setWire w).sAsduLen = s.sAsduLen := rfl
@[simp] theorem State.setWire_sAsduCount : (s.setWire w).sAsduCount = s.sAsduCount := rfl
@[simp] theorem State.setWire_sBodyLen : (s.setWire w).sBodyLen = s.sBodyLen := rfl
@[simp] theorem State.setWire_keyLen : (s.setWire w).keyLen = s.keyLen := rfl
@[simp] theorem State.setWire_key : (s.setWire w).key = s.key := rfl
@[simp] theorem State.setWire_buf : (s.setWire w).buf = s.buf := rfl
@[simp] theorem State.setWire_pending : (s.setWire w).pending = s.pending := rfl
@[simp] theorem State.setWire_readData : (s.setWire w).readData = s.readData := rfl
@[simp] theorem State.setWire_params : (s.setWire w).params = s.params := rfl
@[simp] theorem State.setWire_resets : (s.setWire w).resets = s.resets := rfl
end

/-! ## setTimestamp -/

section
variable (s : State) (t : Timestamp)
@[simp] theorem State.setTimestamp_status : (s.setTimestamp t).status = s.status := rfl
@[simp] theorem State.setTimestamp_err : (s.setTimestamp t).err = s.err := rfl
@[simp] theorem State.setTimestamp_need : (s.setTimestamp t).need = s.need := rfl
@[simp] theorem State.setTimestamp_config : (s.setTimestamp t).config = s.config := rfl
@[simp] theorem State.setTimestamp_cur : (s.setTimestamp t).cur = s.cur := rfl
@[simp] theorem State.setTimestamp_lim : (s.setTimestamp t).lim = s.lim := rfl
@[simp] theorem State.setTimestamp_src : (s.setTimestamp t).src = s.src := rfl
@[simp] theorem State.setTimestamp_len : (s.setTimestamp t).len = s.len := rfl
@[simp] theorem State.setTimestamp_valLo : (s.setTimestamp t).valLo = s.valLo := rfl
@[simp] theorem State.setTimestamp_valHi : (s.setTimestamp t).valHi = s.valHi := rfl
@[simp] theorem State.setTimestamp_rlen : (s.setTimestamp t).rlen = s.rlen := rfl
@[simp] theorem State.setTimestamp_raddr : (s.setTimestamp t).raddr = s.raddr := rfl
@[simp] theorem State.setTimestamp_crc : (s.setTimestamp t).crc = s.crc := rfl
@[simp] theorem State.setTimestamp_timebase : (s.setTimestamp t).timebase = s.timebase := rfl
@[simp] theorem State.setTimestamp_fps : (s.setTimestamp t).fps = s.fps := rfl
@[simp] theorem State.setTimestamp_tqMask : (s.setTimestamp t).tqMask = s.tqMask := rfl
@[simp] theorem State.setTimestamp_tSec : (s.setTimestamp t).tSec = BitVec.ofNat 32 t.sec := rfl
@[simp] theorem State.setTimestamp_tNs : (s.setTimestamp t).tNs = BitVec.ofNat 32 t.ns := rfl
@[simp] theorem State.setTimestamp_wSoc : (s.setTimestamp t).wSoc = s.wSoc := rfl
@[simp] theorem State.setTimestamp_wFrac : (s.setTimestamp t).wFrac = s.wFrac := rfl
@[simp] theorem State.setTimestamp_tq : (s.setTimestamp t).tq = s.tq := rfl
@[simp] theorem State.setTimestamp_hFormat : (s.setTimestamp t).hFormat = s.hFormat := rfl
@[simp] theorem State.setTimestamp_hType : (s.setTimestamp t).hType = s.hType := rfl
@[simp] theorem State.setTimestamp_hVersion : (s.setTimestamp t).hVersion = s.hVersion := rfl
@[simp] theorem State.setTimestamp_hFrameLen : (s.setTimestamp t).hFrameLen = s.hFrameLen := rfl
@[simp] theorem State.setTimestamp_hIdCode : (s.setTimestamp t).hIdCode = s.hIdCode := rfl
@[simp] theorem State.setTimestamp_hSoc : (s.setTimestamp t).hSoc = s.hSoc := rfl
@[simp] theorem State.setTimestamp_hFracSec : (s.setTimestamp t).hFracSec = s.hFracSec := rfl
@[simp] theorem State.setTimestamp_hHdrLen : (s.setTimestamp t).hHdrLen = s.hHdrLen := rfl
@[simp] theorem State.setTimestamp_sCltpLen : (s.setTimestamp t).sCltpLen = s.sCltpLen := rfl
@[simp] theorem State.setTimestamp_sSpduLen : (s.setTimestamp t).sSpduLen = s.sSpduLen := rfl
@[simp] theorem State.setTimestamp_sPktNum : (s.setTimestamp t).sPktNum = s.sPktNum := rfl
@[simp] theorem State.setTimestamp_sVersion : (s.setTimestamp t).sVersion = s.sVersion := rfl
@[simp] theorem State.setTimestamp_sKeyTime0 : (s.setTimestamp t).sKeyTime0 = s.sKeyTime0 := rfl
@[simp] theorem State.setTimestamp_sKeyTime1 : (s.setTimestamp t).sKeyTime1 = s.sKeyTime1 := rfl
@[simp] theorem State.setTimestamp_sSecAlg : (s.setTimestamp t).sSecAlg = s.sSecAlg := rfl
@[simp] theorem State.setTimestamp_sSigAlg : (s.setTimestamp t).sSigAlg = s.sSigAlg := rfl
@[simp] theorem State.setTimestamp_sKeyId : (s.setTimestamp t).sKeyId = s.sKeyId := rfl
@[simp] theorem State.setTimestamp_sPayLen : (s.setTimestamp t).sPayLen = s.sPayLen := rfl
@[simp] theorem State.setTimestamp_sSim : (s.setTimestamp t).sSim = s.sSim := rfl
@[simp] theorem State.setTimestamp_sAppId : (s.setTimestamp t).sAppId = s.sAppId := rfl
@[simp] theorem State.setTimestamp_sAsduLen : (s.setTimestamp t).sAsduLen = s.sAsduLen := rfl
@[simp] theorem State.setTimestamp_sAsduCount : (s.setTimestamp t).sAsduCount = s.sAsduCount := rfl
@[simp] theorem State.setTimestamp_sBodyLen : (s.setTimestamp t).sBodyLen = s.sBodyLen := rfl
@[simp] theorem State.setTimestamp_keyLen : (s.setTimestamp t).keyLen = s.keyLen := rfl
@[simp] theorem State.setTimestamp_key : (s.setTimestamp t).key = s.key := rfl
@[simp] theorem State.setTimestamp_buf : (s.setTimestamp t).buf = s.buf := rfl
@[simp] theorem State.setTimestamp_pending : (s.setTimestamp t).pending = s.pending := rfl
@[simp] theorem State.setTimestamp_readData : (s.setTimestamp t).readData = s.readData := rfl
@[simp] theorem State.setTimestamp_params : (s.setTimestamp t).params = s.params := rfl
@[simp] theorem State.setTimestamp_resets : (s.setTimestamp t).resets = s.resets := rfl
end

/-! ## The start and the end of a command -/

theorem State.begin_eq (s : State) : s.begin = s.setSigFail false := rfl
theorem State.finishOk_eq (s : State) : s.finishOk = s.setRes resOk := rfl

section
variable (s : State)
@[simp] theorem State.begin_err : s.begin.err = s.err := rfl
@[simp] theorem State.begin_need : s.begin.need = s.need := rfl
@[simp] theorem State.begin_config : s.begin.config = s.config := rfl
@[simp] theorem State.begin_cur : s.begin.cur = s.cur := rfl
@[simp] theorem State.begin_lim : s.begin.lim = s.lim := rfl
@[simp] theorem State.begin_src : s.begin.src = s.src := rfl
@[simp] theorem State.begin_len : s.begin.len = s.len := rfl
@[simp] theorem State.begin_valLo : s.begin.valLo = s.valLo := rfl
@[simp] theorem State.begin_valHi : s.begin.valHi = s.valHi := rfl
@[simp] theorem State.begin_rlen : s.begin.rlen = s.rlen := rfl
@[simp] theorem State.begin_raddr : s.begin.raddr = s.raddr := rfl
@[simp] theorem State.begin_crc : s.begin.crc = s.crc := rfl
@[simp] theorem State.begin_timebase : s.begin.timebase = s.timebase := rfl
@[simp] theorem State.begin_fps : s.begin.fps = s.fps := rfl
@[simp] theorem State.begin_tqMask : s.begin.tqMask = s.tqMask := rfl
@[simp] theorem State.begin_tSec : s.begin.tSec = s.tSec := rfl
@[simp] theorem State.begin_tNs : s.begin.tNs = s.tNs := rfl
@[simp] theorem State.begin_wSoc : s.begin.wSoc = s.wSoc := rfl
@[simp] theorem State.begin_wFrac : s.begin.wFrac = s.wFrac := rfl
@[simp] theorem State.begin_tq : s.begin.tq = s.tq := rfl
@[simp] theorem State.begin_hFormat : s.begin.hFormat = s.hFormat := rfl
@[simp] theorem State.begin_hType : s.begin.hType = s.hType := rfl
@[simp] theorem State.begin_hVersion : s.begin.hVersion = s.hVersion := rfl
@[simp] theorem State.begin_hFrameLen : s.begin.hFrameLen = s.hFrameLen := rfl
@[simp] theorem State.begin_hIdCode : s.begin.hIdCode = s.hIdCode := rfl
@[simp] theorem State.begin_hSoc : s.begin.hSoc = s.hSoc := rfl
@[simp] theorem State.begin_hFracSec : s.begin.hFracSec = s.hFracSec := rfl
@[simp] theorem State.begin_hHdrLen : s.begin.hHdrLen = s.hHdrLen := rfl
@[simp] theorem State.begin_sCltpLen : s.begin.sCltpLen = s.sCltpLen := rfl
@[simp] theorem State.begin_sSpduLen : s.begin.sSpduLen = s.sSpduLen := rfl
@[simp] theorem State.begin_sPktNum : s.begin.sPktNum = s.sPktNum := rfl
@[simp] theorem State.begin_sVersion : s.begin.sVersion = s.sVersion := rfl
@[simp] theorem State.begin_sKeyTime0 : s.begin.sKeyTime0 = s.sKeyTime0 := rfl
@[simp] theorem State.begin_sKeyTime1 : s.begin.sKeyTime1 = s.sKeyTime1 := rfl
@[simp] theorem State.begin_sSecAlg : s.begin.sSecAlg = s.sSecAlg := rfl
@[simp] theorem State.begin_sSigAlg : s.begin.sSigAlg = s.sSigAlg := rfl
@[simp] theorem State.begin_sKeyId : s.begin.sKeyId = s.sKeyId := rfl
@[simp] theorem State.begin_sPayLen : s.begin.sPayLen = s.sPayLen := rfl
@[simp] theorem State.begin_sSim : s.begin.sSim = s.sSim := rfl
@[simp] theorem State.begin_sAppId : s.begin.sAppId = s.sAppId := rfl
@[simp] theorem State.begin_sAsduLen : s.begin.sAsduLen = s.sAsduLen := rfl
@[simp] theorem State.begin_sAsduCount : s.begin.sAsduCount = s.sAsduCount := rfl
@[simp] theorem State.begin_sBodyLen : s.begin.sBodyLen = s.sBodyLen := rfl
@[simp] theorem State.begin_keyLen : s.begin.keyLen = s.keyLen := rfl
@[simp] theorem State.begin_key : s.begin.key = s.key := rfl
@[simp] theorem State.begin_buf : s.begin.buf = s.buf := rfl
@[simp] theorem State.begin_params : s.begin.params = s.params := rfl
@[simp] theorem State.begin_pending : s.begin.pending = s.pending := rfl
@[simp] theorem State.begin_readData : s.begin.readData = s.readData := rfl
@[simp] theorem State.begin_resets : s.begin.resets = s.resets := rfl
end

end Sys2Proof.Machine
end

