-- ==== Sys2Proof/Laws/Memory.lean ====
section
/-! SUPPORT. The laws of BUF: read after write, the canonical form is kept, and big-endian numbers. -/

namespace Sys2Proof.Machine

/-! ## One byte -/

@[simp] theorem Memory.read_write_same (m : Memory) (a : Nat) (b : Byte) :
    Memory.read (Memory.write m a b) a = some b := by
  induction m with
  | nil => simp [Memory.write, Memory.read]
  | cons c m ih =>
    obtain ⟨k, v⟩ := c
    rcases Nat.lt_trichotomy a k with h | h | h
    · simp [Memory.write, Memory.read, h]
    · simp [Memory.write, Memory.read, h]
    · have h1 : ¬ a < k := by omega
      have h2 : a ≠ k := by omega
      have h3 : k ≠ a := by omega
      simp [Memory.write, Memory.read, h1, h2, h3, ih]

theorem Memory.read_write_other (m : Memory) {a x : Nat} (b : Byte) (hx : x ≠ a) :
    Memory.read (Memory.write m a b) x = Memory.read m x := by
  induction m with
  | nil => simp [Memory.write, Memory.read, hx.symm]
  | cons c m ih =>
    obtain ⟨k, v⟩ := c
    rcases Nat.lt_trichotomy a k with h | h | h
    · simp [Memory.write, Memory.read, h, hx.symm]
    · subst h
      simp [Memory.write, Memory.read, hx.symm]
    · have h1 : ¬ a < k := by omega
      have h2 : a ≠ k := by omega
      simp [Memory.write, Memory.read, h1, h2, ih]

/-- The offsets a write lists. -/
theorem Memory.mem_write {m : Memory} {a : Nat} {b : Byte} {c : Host.Cell} (h : c ∈ Memory.write m a b) :
    c = (a, b) ∨ c ∈ m := by
  induction m with
  | nil => simpa [Memory.write] using h
  | cons d m ih =>
    obtain ⟨k, v⟩ := d
    unfold Memory.write at h
    split at h
    · simpa using h
    · split at h
      · rcases List.mem_cons.1 h with h | h
        · exact .inl h
        · exact .inr (List.mem_cons_of_mem _ h)
      · rcases List.mem_cons.1 h with h | h
        · exact .inr (h ▸ List.mem_cons_self)
        · exact (ih h).imp id (List.mem_cons_of_mem _)

/-- A write keeps the canonical form. -/
theorem Memory.wf_write {m : Memory} (a : Nat) (b : Byte) (h : Memory.wf m) : Memory.wf (Memory.write m a b) := by
  induction m with
  | nil => exact List.pairwise_singleton _ _
  | cons d m ih =>
    obtain ⟨k, v⟩ := d
    obtain ⟨hk, hm⟩ := List.pairwise_cons.1 h
    unfold Memory.write
    split
    · rename_i hlt
      refine List.pairwise_cons.2 ⟨fun c hc => ?_, h⟩
      rcases List.mem_cons.1 hc with rfl | hc
      · exact hlt
      · exact Nat.lt_trans hlt (hk c hc)
    · split
      · rename_i heq
        subst heq
        exact List.pairwise_cons.2 ⟨hk, hm⟩
      · refine List.pairwise_cons.2 ⟨fun c hc => ?_, ih hm⟩
        rcases Memory.mem_write hc with rfl | hc
        · show k < a
          omega
        · exact hk c hc

theorem Memory.inRange_write {size : Nat} {m : Memory} {a : Nat} {b : Byte} (ha : a < size)
    (h : Memory.inRange size m) : Memory.inRange size (Memory.write m a b) := by
  intro c hc
  rcases Memory.mem_write hc with rfl | hc
  · exact ha
  · exact h c hc

/-! ## Byte strings -/

theorem Memory.wf_writeBytes {m : Memory} (a : Nat) (bs : List Byte) (h : Memory.wf m) :
    Memory.wf (Memory.writeBytes m a bs) := by
  induction bs generalizing m a with
  | nil => exact h
  | cons b bs ih => exact ih (a + 1) (Memory.wf_write a b h)

theorem Memory.inRange_writeBytes {size : Nat} {m : Memory} {a : Nat} {bs : List Byte}
    (ha : a + bs.length ≤ size) (h : Memory.inRange size m) : Memory.inRange size (Memory.writeBytes m a bs) := by
  induction bs generalizing m a with
  | nil => exact h
  | cons b bs ih =>
    have hl : a + (bs.length + 1) ≤ size := ha
    exact ih (by omega) (Memory.inRange_write (by omega) h)

theorem Memory.read_writeBytes_outside (m : Memory) {a x : Nat} (bs : List Byte)
    (hx : x < a ∨ a + bs.length ≤ x) : Memory.read (Memory.writeBytes m a bs) x = Memory.read m x := by
  induction bs generalizing m a with
  | nil => rfl
  | cons b bs ih =>
    have hl : x < a ∨ a + (bs.length + 1) ≤ x := hx
    rw [Memory.writeBytes, ih _ (by omega), Memory.read_write_other _ _ (by omega)]

theorem Memory.read_writeBytes_inside (m : Memory) (a : Nat) (bs : List Byte) {i : Nat} (hi : i < bs.length) :
    Memory.read (Memory.writeBytes m a bs) (a + i) = some bs[i] := by
  induction bs generalizing m a i with
  | nil => simp at hi
  | cons b bs ih =>
    cases i with
    | zero =>
      rw [Memory.writeBytes, Memory.read_writeBytes_outside _ _ (by omega)]
      simp
    | succ i =>
      have hi' : i < bs.length := by simpa using hi
      rw [Memory.writeBytes, show a + (i + 1) = a + 1 + i by omega, ih _ _ hi']
      rfl

/-! ## BUF[a] and Bytes(a, n) -/

theorem State.byteAt_writeBytes_outside (s : State) {a x : Nat} (bs : List Byte)
    (hx : x < a ∨ a + bs.length ≤ x) : (s.writeBytes a bs).byteAt x = s.byteAt x := by
  simp [State.byteAt, Memory.read_writeBytes_outside _ _ hx]

theorem State.byteAt_writeBytes_inside (s : State) (a : Nat) (bs : List Byte) {i : Nat} (hi : i < bs.length) :
    (s.writeBytes a bs).byteAt (a + i) = bs[i] := by
  simp [State.byteAt, Memory.read_writeBytes_inside _ _ _ hi]

@[simp] theorem State.length_bytesAt (s : State) (a n : Nat) : (s.bytesAt a n).length = n := by
  induction n generalizing a with
  | zero => rfl
  | succ n ih => simp [State.bytesAt, ih]

theorem State.getElem_bytesAt (s : State) (a n : Nat) {i : Nat} (hi : i < n) :
    (s.bytesAt a n)[i]'(by simpa using hi) = s.byteAt (a + i) := by
  induction n generalizing a i with
  | zero => omega
  | succ n ih =>
    cases i with
    | zero => rfl
    | succ i =>
      have := ih (a + 1) (i := i) (by omega)
      simpa [State.bytesAt, show a + 1 + i = a + (i + 1) by omega] using this

/-- Bytes(a, n) depends on the n bytes from a only. -/
theorem State.bytesAt_congr {s t : State} {a b n : Nat} (h : ∀ i < n, s.byteAt (a + i) = t.byteAt (b + i)) :
    s.bytesAt a n = t.bytesAt b n := by
  induction n generalizing a b with
  | zero => rfl
  | succ n ih =>
    have h0 : s.byteAt a = t.byteAt b := by simpa using h 0 (by omega)
    have ht : s.bytesAt (a + 1) n = t.bytesAt (b + 1) n := by
      refine ih fun i hi => ?_
      have := h (i + 1) (by omega)
      rwa [show a + (i + 1) = a + 1 + i by omega, show b + (i + 1) = b + 1 + i by omega] at this
    simp [State.bytesAt, h0, ht]

theorem State.bytesAt_append (s : State) (a m n : Nat) :
    s.bytesAt a (m + n) = s.bytesAt a m ++ s.bytesAt (a + m) n := by
  induction m generalizing a with
  | zero => simp [State.bytesAt]
  | succ m ih =>
    have h1 : m + 1 + n = m + n + 1 := by omega
    have h2 : a + (m + 1) = a + 1 + m := by omega
    rw [h1, h2, State.bytesAt, State.bytesAt, ih]
    rfl

/-- Read after write: the written bytes are read back. -/
@[simp] theorem State.bytesAt_writeBytes_same (s : State) (a : Nat) (bs : List Byte) :
    (s.writeBytes a bs).bytesAt a bs.length = bs := by
  refine List.ext_getElem (by simp) fun i h1 h2 => ?_
  rw [State.getElem_bytesAt _ _ _ (by simpa using h1), State.byteAt_writeBytes_inside _ _ _ h2]

/-- Read after write: a disjoint span is read as before. -/
theorem State.bytesAt_writeBytes_disjoint (s : State) {a x n : Nat} (bs : List Byte)
    (h : x + n ≤ a ∨ a + bs.length ≤ x) : (s.writeBytes a bs).bytesAt x n = s.bytesAt x n :=
  State.bytesAt_congr fun i hi => State.byteAt_writeBytes_outside s bs (by omega)

/-! ## Big-endian numbers -/

theorem beNat_append (xs ys : List Byte) : beNat (xs ++ ys) = beNat xs * 256 ^ ys.length + beNat ys := by
  induction ys using List.reverseRecOn with
  | nil => simp [beNat]
  | append_singleton ys y ih =>
    rw [← List.append_assoc, beNat, List.foldl_append]
    rw [show beNat (ys ++ [y]) = beNat ys * 256 + y.toNat by simp [beNat]]
    simp only [List.foldl_cons, List.foldl_nil, List.length_append, List.length_singleton]
    rw [show List.foldl (fun acc (b : Byte) => acc * 256 + b.toNat) 0 (xs ++ ys) = beNat (xs ++ ys) from rfl, ih,
      Nat.pow_succ]
    ring

theorem beNat_lt (bs : List Byte) : beNat bs < 256 ^ bs.length := by
  induction bs using List.reverseRecOn with
  | nil => simp [beNat]
  | append_singleton bs b ih =>
    rw [show beNat (bs ++ [b]) = beNat bs * 256 + b.toNat by simp [beNat], List.length_append]
    have hb := b.isLt
    have hp : 256 ^ (bs.length + 1) = 256 ^ bs.length * 256 := Nat.pow_succ ..
    simp only [List.length_singleton]
    omega

@[simp] theorem length_beBytes (n v : Nat) : (beBytes n v).length = n := by
  induction n with
  | zero => rfl
  | succ n ih => simp [beBytes, ih]

/-- BE_n(v) stands for v modulo 2^(8n). -/
theorem beNat_beBytes (n v : Nat) : beNat (beBytes n v) = v % 256 ^ n := by
  induction n with
  | zero => simp [beBytes, beNat, Nat.mod_one]
  | succ n ih =>
    have h : beNat (beBytes (n + 1) v) = (v >>> (8 * n)) % 256 * 256 ^ n + beNat (beBytes n v) := by
      have := beNat_append [BitVec.ofNat 8 (v >>> (8 * n))] (beBytes n v)
      simpa [beBytes, beNat] using this
    rw [h, ih, Nat.shiftRight_eq_div_pow, show 2 ^ (8 * n) = 256 ^ n by rw [Nat.pow_mul],
      Nat.pow_succ, Nat.mod_mul]
    ring

@[simp] theorem State.memRead_one (s : State) (a : Nat) : s.memRead a 1 = (s.byteAt a).toNat := by
  simp [State.memRead, State.bytesAt, beNat]

theorem State.memRead_two (s : State) (a : Nat) :
    s.memRead a 2 = (s.byteAt a).toNat * 256 + (s.byteAt (a + 1)).toNat := by
  simp [State.memRead, State.bytesAt, beNat]

theorem State.memRead_lt (s : State) (a n : Nat) : s.memRead a n < 256 ^ n := by
  have := beNat_lt (s.bytesAt a n)
  rwa [State.length_bytesAt] at this

/-- The updates of a command other than a write of BUF leave every byte as it is. -/
theorem State.byteAt_congr {s t : State} (hb : s.buf = t.buf) (hr : s.resets = t.resets) :
    s.byteAt = t.byteAt := by
  funext a
  simp [State.byteAt, hb, hr]

theorem State.bytesAt_eq {s t : State} (hb : s.buf = t.buf) (hr : s.resets = t.resets) :
    s.bytesAt = t.bytesAt := by
  funext a n
  exact State.bytesAt_congr fun i _ => congrFun (State.byteAt_congr hb hr) _

theorem State.memRead_eq {s t : State} (hb : s.buf = t.buf) (hr : s.resets = t.resets) :
    s.memRead = t.memRead := by
  funext a n
  simp [State.memRead, State.bytesAt_eq hb hr]

end Sys2Proof.Machine
end

