-- ==== Sys2Proof/Laws/Ops.lean ====
section
/-! SUPPORT. What the shared operations of every command do: the pseudocode checks, the three outcomes, and what
the start of a command leaves as it was. -/

namespace Sys2Proof.Machine

/-! ## The pseudocode's checks -/

theorem Except.bind_eq_ok_iff {ε α β : Type} {x : Except ε α} {f : α → Except ε β} {b : β} :
    (x >>= f) = .ok b ↔ ∃ a, x = .ok a ∧ f a = .ok b := by
  cases x with
  | error e => simp [bind, Except.bind]
  | ok a => simp [bind, Except.bind]

theorem Except.bind_eq_error_iff {ε α β : Type} {x : Except ε α} {f : α → Except ε β} {e : ε} :
    (x >>= f) = .error e ↔ x = .error e ∨ ∃ a, x = .ok a ∧ f a = .error e := by
  cases x with
  | error e' => simp [bind, Except.bind]
  | ok a => simp [bind, Except.bind]

@[simp] theorem Except.ok_bind' {ε α β : Type} (a : α) (f : α → Except ε β) :
    ((Except.ok a : Except ε α) >>= f) = f a := rfl

@[simp] theorem Except.error_bind' {ε α β : Type} (e : ε) (f : α → Except ε β) :
    ((Except.error e : Except ε α) >>= f) = .error e := rfl

@[simp] theorem Except.pure_eq_ok {ε α : Type} (a : α) : (pure a : Except ε α) = .ok a := rfl

@[simp] theorem raiseIf_pos {p : Prop} [Decidable p] (h : p) (e : CmdError) :
    raiseIf p e = .error (.raise e) := if_pos h

@[simp] theorem raiseIf_neg {p : Prop} [Decidable p] (h : ¬ p) (e : CmdError) : raiseIf p e = .ok () := if_neg h

@[simp] theorem needIf_pos {p : Prop} [Decidable p] (h : p) (n : Nat) : needIf p n = .error (.need n) := if_pos h

@[simp] theorem needIf_neg {p : Prop} [Decidable p] (h : ¬ p) (n : Nat) : needIf p n = .ok () := if_neg h

theorem raiseIf_eq_ok_iff {p : Prop} [Decidable p] {e : CmdError} {u : Unit} :
    raiseIf p e = .ok u ↔ ¬ p := by
  unfold raiseIf
  split <;> simp_all

theorem raiseIf_eq_error_iff {p : Prop} [Decidable p] {e : CmdError} {x : Stop} :
    raiseIf p e = .error x ↔ p ∧ x = .raise e := by
  unfold raiseIf
  split <;> simp_all [eq_comm]

theorem needIf_eq_ok_iff {p : Prop} [Decidable p] {n : Nat} {u : Unit} : needIf p n = .ok u ↔ ¬ p := by
  unfold needIf
  split <;> simp_all

theorem needIf_eq_error_iff {p : Prop} [Decidable p] {n : Nat} {x : Stop} :
    needIf p n = .error x ↔ p ∧ x = .need n := by
  unfold needIf
  split <;> simp_all [eq_comm]

/-! ## STATUS -/

@[simp] theorem statusOf_res (v f : Bool) (r : BitVec 2) : (statusOf v f r).extractLsb' 0 2 = r := by
  revert v f r
  decide

@[simp] theorem statusOf_sigFail (v f : Bool) (r : BitVec 2) : (statusOf v f r).getLsbD 2 = f := by
  revert v f r
  decide

@[simp] theorem statusOf_hdrLenValid (v f : Bool) (r : BitVec 2) : (statusOf v f r).getLsbD 3 = v := by
  revert v f r
  decide

@[simp] theorem statusOf_getElem_two (v f : Bool) (r : BitVec 2) : (statusOf v f r)[2] = f := by
  revert v f r
  decide

@[simp] theorem statusOf_getElem_three (v f : Bool) (r : BitVec 2) : (statusOf v f r)[3] = v := by
  revert v f r
  decide

@[simp] theorem State.setRes_res (s : State) (r : BitVec 2) : (s.setRes r).res = r := statusOf_res _ _ _
@[simp] theorem State.setRes_sigFail (s : State) (r : BitVec 2) : (s.setRes r).sigFail = s.sigFail :=
  statusOf_sigFail _ _ _
@[simp] theorem State.setRes_hdrLenValid (s : State) (r : BitVec 2) :
    (s.setRes r).hdrLenValid = s.hdrLenValid := statusOf_hdrLenValid _ _ _
@[simp] theorem State.setSigFail_res (s : State) (b : Bool) : (s.setSigFail b).res = s.res := statusOf_res _ _ _
@[simp] theorem State.setSigFail_sigFail (s : State) (b : Bool) : (s.setSigFail b).sigFail = b :=
  statusOf_sigFail _ _ _
@[simp] theorem State.setSigFail_hdrLenValid (s : State) (b : Bool) :
    (s.setSigFail b).hdrLenValid = s.hdrLenValid := statusOf_hdrLenValid _ _ _
@[simp] theorem State.setHdrLenValid_res (s : State) (b : Bool) : (s.setHdrLenValid b).res = s.res :=
  statusOf_res _ _ _
@[simp] theorem State.setHdrLenValid_sigFail (s : State) (b : Bool) : (s.setHdrLenValid b).sigFail = s.sigFail :=
  statusOf_sigFail _ _ _
@[simp] theorem State.setHdrLenValid_hdrLenValid (s : State) (b : Bool) : (s.setHdrLenValid b).hdrLenValid = b :=
  statusOf_hdrLenValid _ _ _

@[simp] theorem State.errorState_res (s : State) (e : CmdError) : (s.errorState e).res = resError :=
  statusOf_res _ _ _
@[simp] theorem State.errorState_sigFail (s : State) (e : CmdError) : (s.errorState e).sigFail = false :=
  statusOf_sigFail _ _ _
@[simp] theorem State.errorState_hdrLenValid (s : State) (e : CmdError) :
    (s.errorState e).hdrLenValid = s.hdrLenValid := statusOf_hdrLenValid _ _ _
@[simp] theorem State.needState_res (s : State) (n : Nat) : (s.needState n).res = resNeedMore := statusOf_res _ _ _
@[simp] theorem State.needState_sigFail (s : State) (n : Nat) : (s.needState n).sigFail = false :=
  statusOf_sigFail _ _ _
@[simp] theorem State.needState_hdrLenValid (s : State) (n : Nat) :
    (s.needState n).hdrLenValid = s.hdrLenValid := statusOf_hdrLenValid _ _ _

/-! ## errorState -/

section
variable (s : State) (e : CmdError)
@[simp] theorem State.errorState_status : (s.errorState e).status = statusOf s.hdrLenValid false resError := rfl
@[simp] theorem State.errorState_err : (s.errorState e).err = e.word := rfl
@[simp] theorem State.errorState_need : (s.errorState e).need = s.need := rfl
@[simp] theorem State.errorState_config : (s.errorState e).config = s.config := rfl
@[simp] theorem State.errorState_cur : (s.errorState e).cur = s.cur := rfl
@[simp] theorem State.errorState_lim : (s.errorState e).lim = s.lim := rfl
@[simp] theorem State.errorState_src : (s.errorState e).src = s.src := rfl
@[simp] theorem State.errorState_len : (s.errorState e).len = s.len := rfl
@[simp] theorem State.errorState_valLo : (s.errorState e).valLo = s.valLo := rfl
@[simp] theorem State.errorState_valHi : (s.errorState e).valHi = s.valHi := rfl
@[simp] theorem State.errorState_rlen : (s.errorState e).rlen = s.rlen := rfl
@[simp] theorem State.errorState_raddr : (s.errorState e).raddr = s.raddr := rfl
@[simp] theorem State.errorState_crc : (s.errorState e).crc = s.crc := rfl
@[simp] theorem State.errorState_timebase : (s.errorState e).timebase = s.timebase := rfl
@[simp] theorem State.errorState_fps : (s.errorState e).fps = s.fps := rfl
@[simp] theorem State.errorState_tqMask : (s.errorState e).tqMask = s.tqMask := rfl
@[simp] theorem State.errorState_tSec : (s.errorState e).tSec = s.tSec := rfl
@[simp] theorem State.errorState_tNs : (s.errorState e).tNs = s.tNs := rfl
@[simp] theorem State.errorState_wSoc : (s.errorState e).wSoc = s.wSoc := rfl
@[simp] theorem State.errorState_wFrac : (s.errorState e).wFrac = s.wFrac := rfl
@[simp] theorem State.errorState_tq : (s.errorState e).tq = s.tq := rfl
@[simp] theorem State.errorState_hFormat : (s.errorState e).hFormat = s.hFormat := rfl
@[simp] theorem State.errorState_hType : (s.errorState e).hType = s.hType := rfl
@[simp] theorem State.errorState_hVersion : (s.errorState e).hVersion = s.hVersion := rfl
@[simp] theorem State.errorState_hFrameLen : (s.errorState e).hFrameLen = s.hFrameLen := rfl
@[simp] theorem State.errorState_hIdCode : (s.errorState e).hIdCode = s.hIdCode := rfl
@[simp] theorem State.errorState_hSoc : (s.errorState e).hSoc = s.hSoc := rfl
@[simp] theorem State.errorState_hFracSec : (s.errorState e).hFracSec = s.hFracSec := rfl
@[simp] theorem State.errorState_hHdrLen : (s.errorState e).hHdrLen = s.hHdrLen := rfl
@[simp] theorem State.errorState_sCltpLen : (s.errorState e).sCltpLen = s.sCltpLen := rfl
@[simp] theorem State.errorState_sSpduLen : (s.errorState e).sSpduLen = s.sSpduLen := rfl
@[simp] theorem State.errorState_sPktNum : (s.errorState e).sPktNum = s.sPktNum := rfl
@[simp] theorem State.errorState_sVersion : (s.errorState e).sVersion = s.sVersion := rfl
@[simp] theorem State.errorState_sKeyTime0 : (s.errorState e).sKeyTime0 = s.sKeyTime0 := rfl
@[simp] theorem State.errorState_sKeyTime1 : (s.errorState e).sKeyTime1 = s.sKeyTime1 := rfl
@[simp] theorem State.errorState_sSecAlg : (s.errorState e).sSecAlg = s.sSecAlg := rfl
@[simp] theorem State.errorState_sSigAlg : (s.errorState e).sSigAlg = s.sSigAlg := rfl
@[simp] theorem State.errorState_sKeyId : (s.errorState e).sKeyId = s.sKeyId := rfl
@[simp] theorem State.errorState_sPayLen : (s.errorState e).sPayLen = s.sPayLen := rfl
@[simp] theorem State.errorState_sSim : (s.errorState e).sSim = s.sSim := rfl
@[simp] theorem State.errorState_sAppId : (s.errorState e).sAppId = s.sAppId := rfl
@[simp] theorem State.errorState_sAsduLen : (s.errorState e).sAsduLen = s.sAsduLen := rfl
@[simp] theorem State.errorState_sAsduCount : (s.errorState e).sAsduCount = s.sAsduCount := rfl
@[simp] theorem State.errorState_sBodyLen : (s.errorState e).sBodyLen = s.sBodyLen := rfl
@[simp] theorem State.errorState_keyLen : (s.errorState e).keyLen = s.keyLen := rfl
@[simp] theorem State.errorState_key : (s.errorState e).key = s.key := rfl
@[simp] theorem State.errorState_buf : (s.errorState e).buf = s.buf := rfl
@[simp] theorem State.errorState_pending : (s.errorState e).pending = s.pending := rfl
@[simp] theorem State.errorState_readData : (s.errorState e).readData = s.readData := rfl
@[simp] theorem State.errorState_resets : (s.errorState e).resets = s.resets := rfl
end

/-! ## needState -/

section
variable (s : State) (n : Nat)
@[simp] theorem State.needState_status : (s.needState n).status = statusOf s.hdrLenValid false resNeedMore := rfl
@[simp] theorem State.needState_err : (s.needState n).err = s.err := rfl
@[simp] theorem State.needState_need : (s.needState n).need = BitVec.ofNat 32 n := rfl
@[simp] theorem State.needState_config : (s.needState n).config = s.config := rfl
@[simp] theorem State.needState_cur : (s.needState n).cur = s.cur := rfl
@[simp] theorem State.needState_lim : (s.needState n).lim = s.lim := rfl
@[simp] theorem State.needState_src : (s.needState n).src = s.src := rfl
@[simp] theorem State.needState_len : (s.needState n).len = s.len := rfl
@[simp] theorem State.needState_valLo : (s.needState n).valLo = s.valLo := rfl
@[simp] theorem State.needState_valHi : (s.needState n).valHi = s.valHi := rfl
@[simp] theorem State.needState_rlen : (s.needState n).rlen = s.rlen := rfl
@[simp] theorem State.needState_raddr : (s.needState n).raddr = s.raddr := rfl
@[simp] theorem State.needState_crc : (s.needState n).crc = s.crc := rfl
@[simp] theorem State.needState_timebase : (s.needState n).timebase = s.timebase := rfl
@[simp] theorem State.needState_fps : (s.needState n).fps = s.fps := rfl
@[simp] theorem State.needState_tqMask : (s.needState n).tqMask = s.tqMask := rfl
@[simp] theorem State.needState_tSec : (s.needState n).tSec = s.tSec := rfl
@[simp] theorem State.needState_tNs : (s.needState n).tNs = s.tNs := rfl
@[simp] theorem State.needState_wSoc : (s.needState n).wSoc = s.wSoc := rfl
@[simp] theorem State.needState_wFrac : (s.needState n).wFrac = s.wFrac := rfl
@[simp] theorem State.needState_tq : (s.needState n).tq = s.tq := rfl
@[simp] theorem State.needState_hFormat : (s.needState n).hFormat = s.hFormat := rfl
@[simp] theorem State.needState_hType : (s.needState n).hType = s.hType := rfl
@[simp] theorem State.needState_hVersion : (s.needState n).hVersion = s.hVersion := rfl
@[simp] theorem State.needState_hFrameLen : (s.needState n).hFrameLen = s.hFrameLen := rfl
@[simp] theorem State.needState_hIdCode : (s.needState n).hIdCode = s.hIdCode := rfl
@[simp] theorem State.needState_hSoc : (s.needState n).hSoc = s.hSoc := rfl
@[simp] theorem State.needState_hFracSec : (s.needState n).hFracSec = s.hFracSec := rfl
@[simp] theorem State.needState_hHdrLen : (s.needState n).hHdrLen = s.hHdrLen := rfl
@[simp] theorem State.needState_sCltpLen : (s.needState n).sCltpLen = s.sCltpLen := rfl
@[simp] theorem State.needState_sSpduLen : (s.needState n).sSpduLen = s.sSpduLen := rfl
@[simp] theorem State.needState_sPktNum : (s.needState n).sPktNum = s.sPktNum := rfl
@[simp] theorem State.needState_sVersion : (s.needState n).sVersion = s.sVersion := rfl
@[simp] theorem State.needState_sKeyTime0 : (s.needState n).sKeyTime0 = s.sKeyTime0 := rfl
@[simp] theorem State.needState_sKeyTime1 : (s.needState n).sKeyTime1 = s.sKeyTime1 := rfl
@[simp] theorem State.needState_sSecAlg : (s.needState n).sSecAlg = s.sSecAlg := rfl
@[simp] theorem State.needState_sSigAlg : (s.needState n).sSigAlg = s.sSigAlg := rfl
@[simp] theorem State.needState_sKeyId : (s.needState n).sKeyId = s.sKeyId := rfl
@[simp] theorem State.needState_sPayLen : (s.needState n).sPayLen = s.sPayLen := rfl
@[simp] theorem State.needState_sSim : (s.needState n).sSim = s.sSim := rfl
@[simp] theorem State.needState_sAppId : (s.needState n).sAppId = s.sAppId := rfl
@[simp] theorem State.needState_sAsduLen : (s.needState n).sAsduLen = s.sAsduLen := rfl
@[simp] theorem State.needState_sAsduCount : (s.needState n).sAsduCount = s.sAsduCount := rfl
@[simp] theorem State.needState_sBodyLen : (s.needState n).sBodyLen = s.sBodyLen := rfl
@[simp] theorem State.needState_keyLen : (s.needState n).keyLen = s.keyLen := rfl
@[simp] theorem State.needState_key : (s.needState n).key = s.key := rfl
@[simp] theorem State.needState_buf : (s.needState n).buf = s.buf := rfl
@[simp] theorem State.needState_pending : (s.needState n).pending = s.pending := rfl
@[simp] theorem State.needState_readData : (s.needState n).readData = s.readData := rfl
@[simp] theorem State.needState_resets : (s.needState n).resets = s.resets := rfl
end

/-! ## The start of a command changes SIGFAIL only -/

@[simp] theorem State.begin_byteAt (s : State) : s.begin.byteAt = s.byteAt := rfl
@[simp] theorem State.begin_bytesAt (s : State) : s.begin.bytesAt = s.bytesAt := State.bytesAt_eq rfl rfl
@[simp] theorem State.begin_memRead (s : State) : s.begin.memRead = s.memRead := State.memRead_eq rfl rfl
@[simp] theorem State.begin_winEnd (s : State) : s.begin.winEnd = s.winEnd := rfl
@[simp] theorem State.begin_val (s : State) : s.begin.val = s.val := rfl
@[simp] theorem State.begin_keyBytes (s : State) : s.begin.keyBytes = s.keyBytes := rfl
@[simp] theorem State.begin_hdrLenValid (s : State) : s.begin.hdrLenValid = s.hdrLenValid :=
  State.setSigFail_hdrLenValid s false
@[simp] theorem State.begin_sigFail (s : State) : s.begin.sigFail = false := State.setSigFail_sigFail s false
@[simp] theorem State.begin_res (s : State) : s.begin.res = s.res := State.setSigFail_res s false
@[simp] theorem State.begin_ignoreSig (s : State) : s.begin.ignoreSig = s.ignoreSig := rfl

/-- The start of a command as a record update: STATUS.SIGFAIL alone. -/
theorem State.begin_eq_with (s : State) :
    s.begin = { s with status := statusOf s.hdrLenValid false s.res } := rfl

/-- The end of a command as a record update: STATUS.RES alone. -/
theorem State.setRes_eq_with (s : State) (r : BitVec 2) :
    s.setRes r = { s with status := statusOf s.hdrLenValid s.sigFail r } := rfl

/-! ## The outcome of a command -/

theorem settle_raise (s : State) (e : CmdError) : settle s (.error (.raise e)) = s.errorState e := by
  simp [settle, State.finishError, State.errorState, State.begin_eq]

theorem settle_need (s : State) (n : Nat) : settle s (.error (.need n)) = s.needState n := by
  simp [settle, State.finishNeed, State.needState, State.begin_eq]

theorem settle_ok (s t : State) : settle s (.ok t) = t.setRes resOk := rfl

/-- A command always completes (60_exceptions.md R239), in one of the three outcomes of R236. -/
theorem runCommand_cases (body : State → Except Stop State) (s : State) :
    (∃ t, body s.begin = .ok t ∧ runCommand body s = .next (t.setRes resOk)) ∨
    (∃ n, body s.begin = .error (.need n) ∧ runCommand body s = .next (s.needState n)) ∨
    (∃ e, body s.begin = .error (.raise e) ∧ runCommand body s = .next (s.errorState e)) := by
  unfold runCommand
  match h : body s.begin with
  | .ok t => exact .inl ⟨t, rfl, rfl⟩
  | .error (.need n) => exact .inr (.inl ⟨n, rfl, by rw [settle_need]⟩)
  | .error (.raise e) => exact .inr (.inr ⟨e, rfl, by rw [settle_raise]⟩)

theorem runCommand_of_ok {body : State → Except Stop State} {s t : State} (h : body s.begin = .ok t) :
    runCommand body s = .next (t.setRes resOk) := by
  rw [runCommand, h, settle_ok]

theorem runCommand_of_need {body : State → Except Stop State} {s : State} {n : Nat}
    (h : body s.begin = .error (.need n)) : runCommand body s = .next (s.needState n) := by
  rw [runCommand, h, settle_need]

theorem runCommand_of_raise {body : State → Except Stop State} {s : State} {e : CmdError}
    (h : body s.begin = .error (.raise e)) : runCommand body s = .next (s.errorState e) := by
  rw [runCommand, h, settle_raise]

theorem illegalCommand_eq (e : DecodeError) (s : State) :
    illegalCommand e s = .next (s.errorState (match e with
      | .reservedBits => ⟨.illegalCommand, .reservedBits, 0⟩
      | .unknownOpcode opc => ⟨.illegalCommand, .unknownOpcode, opc⟩)) := by
  cases e <;> simp [illegalCommand, settle_raise]

end Sys2Proof.Machine
end

