-- ==== Sys2Proof/Laws/Tlv.lean ====
section
/-! SUPPORT. What each TLV helper does, said once as an equation: the length header by the table of 40_tlv.md R101,
the tag check, the scalar and string parses, the images and the store at CUR. -/

namespace Sys2Proof.Machine

/-! ## The length header -/

theorem State.headerSize_pos (s : State) (c : Nat) : 1 ≤ s.headerSize c := by
  unfold State.headerSize
  split <;> [skip; split] <;> omega

theorem State.headerSize_le (s : State) (c : Nat) : s.headerSize c ≤ 3 := by
  unfold State.headerSize
  split <;> [skip; split] <;> omega

theorem State.declaredLen_le (s : State) (c : Nat) : s.declaredLen c ≤ 65535 := by
  have h1 := (s.byteAt (c + 1)).isLt
  have h2 := (s.byteAt (c + 2)).isLt
  unfold State.declaredLen
  repeat' split
  all_goals omega

/-- A byte with bit 7 clear is at most 0x7F. -/
theorem byte_bit7 (b : Byte) : b.getLsbD 7 = false ↔ b.toNat ≤ 0x7F := by
  revert b
  decide

theorem byte_form1 (b : Byte) (h : ¬ b.getLsbD 7 = false) : b.extractLsb' 0 7 = 1#7 ↔ b = 0x81 := by
  revert b
  decide

theorem byte_form2 (b : Byte) (h : ¬ b.getLsbD 7 = false) : b.extractLsb' 0 7 = 2#7 ↔ b = 0x82 := by
  revert b
  decide

/-- The length-header parse is the table of R101: the columns "header bytes" and "declared length". -/
theorem parseTagLength_eq (s : State) (c fin : Nat) (e : CmdError) :
    parseTagLength s c fin e =
      if c + s.headerSize c ≤ fin then .ok ⟨s.declaredLen c, c + s.headerSize c⟩ else .error (.raise e) := by
  unfold parseTagLength State.headerSize State.declaredLen
  dsimp only
  by_cases h7 : (s.byteAt c).getLsbD 7 = false
  · have hle := (byte_bit7 _).1 h7
    have h1 : s.byteAt c ≠ 0x81 := by rintro h; rw [h] at hle; exact absurd hle (by decide)
    have h2 : s.byteAt c ≠ 0x82 := by rintro h; rw [h] at hle; exact absurd hle (by decide)
    rw [if_neg h1, if_neg h2, if_neg h1, if_neg h2, if_pos hle, if_pos h7]
    by_cases hf : c + 1 > fin
    · rw [raiseIf_pos hf, if_neg (show ¬ c + 1 ≤ fin by omega)]
      rfl
    · rw [raiseIf_neg hf, if_pos (show c + 1 ≤ fin by omega), Except.ok_bind']
      rfl
  · have hgt : ¬ (s.byteAt c).toNat ≤ 0x7F := fun h => h7 ((byte_bit7 _).2 h)
    rw [if_neg hgt]
    by_cases h1 : s.byteAt c = 0x81
    · rw [if_neg h7, if_pos h1, if_pos h1, if_pos ((byte_form1 _ h7).2 h1)]
      by_cases hf : c + 1 > fin
      · rw [raiseIf_pos hf, if_neg (show ¬ c + 2 ≤ fin by omega)]
        rfl
      · rw [raiseIf_neg hf, Except.ok_bind']
        by_cases hf2 : c + 2 > fin
        · rw [raiseIf_pos hf2, if_neg (show ¬ c + 2 ≤ fin by omega)]
          rfl
        · rw [raiseIf_neg hf2, if_pos (show c + 2 ≤ fin by omega), Except.ok_bind', State.memRead_one]
          rfl
    · have h1' : ¬ (s.byteAt c).extractLsb' 0 7 = 1#7 := fun h => h1 ((byte_form1 _ h7).1 h)
      rw [if_neg h7, if_neg h1, if_neg h1, if_neg h1']
      by_cases h2 : s.byteAt c = 0x82
      · rw [if_pos h2, if_pos h2, if_pos ((byte_form2 _ h7).2 h2)]
        by_cases hf : c + 1 > fin
        · rw [raiseIf_pos hf, if_neg (show ¬ c + 3 ≤ fin by omega)]
          rfl
        · rw [raiseIf_neg hf, Except.ok_bind']
          by_cases hf3 : c + 3 > fin
          · rw [raiseIf_pos hf3, if_neg (show ¬ c + 3 ≤ fin by omega)]
            rfl
          · rw [raiseIf_neg hf3, if_pos (show c + 3 ≤ fin by omega), Except.ok_bind', State.memRead_two]
            rfl
      · have h2' : ¬ (s.byteAt c).extractLsb' 0 7 = 2#7 := fun h => h2 ((byte_form2 _ h7).1 h)
        rw [if_neg h2, if_neg h2, if_neg h2']
        by_cases hf : c + 1 > fin
        · rw [raiseIf_pos hf, if_neg (show ¬ c + 1 ≤ fin by omega)]
          rfl
        · rw [raiseIf_neg hf, if_pos (show c + 1 ≤ fin by omega), Except.ok_bind']
          rfl

theorem State.headerSize_congr {s t : State} {c : Nat} (h : s.byteAt c = t.byteAt c) :
    s.headerSize c = t.headerSize c := by
  simp [State.headerSize, h]

theorem State.declaredLen_congr {s t : State} {c : Nat}
    (h : ∀ i < s.headerSize c, s.byteAt (c + i) = t.byteAt (c + i)) :
    s.declaredLen c = t.declaredLen c := by
  have h0 : s.byteAt c = t.byteAt c := by simpa using h 0 (s.headerSize_pos c)
  unfold State.headerSize at h
  unfold State.declaredLen
  rw [← h0]
  split
  · rfl
  · split
    · rename_i h1
      rw [if_pos h1] at h
      rw [h 1 (by omega)]
    · split
      · rename_i h1 h2
        rw [if_neg h1, if_pos h2] at h
        rw [h 1 (by omega), h 2 (by omega)]
      · rfl

/-! ## The minimal length header -/

theorem lenHdrBytes_eq {n : Nat} (_ : n ≤ 65535) : lenHdrBytes n = minimalHeader n := by
  unfold lenHdrBytes minimalHeader
  split
  · rfl
  · split
    · rfl
    · have h1 : (BitVec.ofNat 8 (n >>> 8) : Byte) = BitVec.ofNat 8 (n / 256) := by
        rw [Nat.shiftRight_eq_div_pow]
      have h2 : (BitVec.ofNat 8 n : Byte) = BitVec.ofNat 8 (n % 256) := by
        apply BitVec.eq_of_toNat_eq
        simp
      simp [beBytes, h1, h2]

theorem length_lenHdrBytes (n : Nat) :
    (lenHdrBytes n).length = if n ≤ 127 then 1 else if n ≤ 255 then 2 else 3 := by
  unfold lenHdrBytes
  split
  · rfl
  · split <;> simp

theorem length_minimalHeader (n : Nat) :
    (minimalHeader n).length = if n ≤ 127 then 1 else if n ≤ 255 then 2 else 3 := by
  unfold minimalHeader
  split
  · rfl
  · split <;> rfl

theorem lenHdr_eq (n : Nat) :
    lenHdr n = if n ≤ 65535 then .ok (minimalHeader n) else .error (.raise (.plain .valueTooLarge)) := by
  unfold lenHdr
  by_cases h : n ≤ 65535
  · simp [h, lenHdrBytes_eq h]
  · simp [h, Nat.lt_of_not_le h]

/-- Where BUF holds the minimal length header of n, the table of R101 reads its size and n back (R106). -/
theorem minimalHeader_reads {s : State} {c n : Nat} (hn : n ≤ 65535)
    (h : s.bytesAt c (minimalHeader n).length = minimalHeader n) :
    s.headerSize c = (minimalHeader n).length ∧ s.declaredLen c = n := by
  unfold minimalHeader at h ⊢
  unfold State.headerSize State.declaredLen
  split at h
  · rename_i hs
    have h0 : s.byteAt c = BitVec.ofNat 8 n := by simpa [State.bytesAt] using h
    have ht : (BitVec.ofNat 8 n : Byte).toNat = n := by simp; omega
    have h1 : (BitVec.ofNat 8 n : Byte) ≠ 0x81 := by
      intro h; have := congrArg BitVec.toNat h; rw [ht] at this; simp at this; omega
    have h2 : (BitVec.ofNat 8 n : Byte) ≠ 0x82 := by
      intro h; have := congrArg BitVec.toNat h; rw [ht] at this; simp at this; omega
    rw [h0, if_neg h1, if_neg h2, if_neg h1, if_neg h2, ht, if_pos hs, if_pos hs]
    exact ⟨rfl, rfl⟩
  · split at h
    · rename_i h1 h2
      have hb : s.byteAt c = 0x81 ∧ s.byteAt (c + 1) = BitVec.ofNat 8 n := by simpa [State.bytesAt] using h
      rw [hb.1, hb.2, if_neg h1, if_pos h2]
      simp
      omega
    · rename_i h1 h2
      have hb : s.byteAt c = 0x82 ∧ s.byteAt (c + 1) = BitVec.ofNat 8 (n / 256) ∧
          s.byteAt (c + 1 + 1) = BitVec.ofNat 8 (n % 256) := by simpa [State.bytesAt] using h
      rw [hb.1, hb.2.1, hb.2.2, if_neg h1, if_neg h2]
      simp
      omega

/-! ## Tag checks and parses -/

/-- The tag is checked first, then the length header (R107). -/
theorem validateTag_eq (s : State) (c fin : Nat) (tag : Byte) (e : CmdError) :
    validateTag s c fin tag e =
      if fin < c + 1 then .error (.raise e)
      else if s.byteAt c ≠ tag then .error (.raise (.protocol .unexpectedTag (s.byteAt c)))
      else if c + 1 + s.headerSize (c + 1) ≤ fin then
        .ok ⟨s.declaredLen (c + 1), c + 1 + s.headerSize (c + 1)⟩
      else .error (.raise e) := by
  unfold validateTag
  rw [parseTagLength_eq]
  by_cases h1 : fin < c + 1
  · simp [h1]
  · by_cases h2 : s.byteAt c ≠ tag
    · simp [h1, h2]
    · simp [h1, h2]

theorem validateTag_ok {s : State} {c fin : Nat} {tag : Byte} {e : CmdError} (ht : s.byteAt c = tag)
    (hf : c + 1 + s.headerSize (c + 1) ≤ fin) :
    validateTag s c fin tag e = .ok ⟨s.declaredLen (c + 1), c + 1 + s.headerSize (c + 1)⟩ := by
  have := s.headerSize_pos (c + 1)
  rw [validateTag_eq, if_neg (by omega), if_neg (by simp [ht]), if_pos hf]

/-- The only ways a tag check answers. -/
theorem validateTag_eq_ok_iff {s : State} {c fin : Nat} {tag : Byte} {e : CmdError} {f : LengthField} :
    validateTag s c fin tag e = .ok f ↔
      s.byteAt c = tag ∧ c + 1 + s.headerSize (c + 1) ≤ fin ∧
        f = ⟨s.declaredLen (c + 1), c + 1 + s.headerSize (c + 1)⟩ := by
  have := s.headerSize_pos (c + 1)
  rw [validateTag_eq]
  split
  · simp; omega
  · split
    · simp_all
    · split <;> simp_all [eq_comm]

/-- The scalar parse after its tag check (R108). -/
theorem parseScalar_eq (s : State) (c fin : Nat) (tag : Byte) (w : Nat) (e : CmdError) :
    parseScalar s c fin tag w e =
      (validateTag s c fin tag e).bind fun h =>
        if h.len < w then .error (.raise (.protocol .lengthTooShort (BitVec.ofNat 8 (min h.len 255))))
        else if fin < h.next + h.len then .error (.raise e)
        else .ok ⟨s.memRead h.next w, h.len, h.next, h.next + h.len⟩ := by
  unfold parseScalar
  cases validateTag s c fin tag e with
  | error x => rfl
  | ok h =>
    simp only [Except.bind, Except.ok_bind']
    by_cases h1 : h.len < w
    · simp [h1]
    · by_cases h2 : fin < h.next + h.len
      · simp [h1, h2]
      · simp [h1, h2]

/-- The string parse after its tag check (R109). -/
theorem parseString_eq (s : State) (c fin : Nat) (tag : Byte) (e : CmdError) :
    parseString s c fin tag e =
      (validateTag s c fin tag e).bind fun h =>
        if fin < h.next + h.len then .error (.raise e) else .ok ⟨h.len, h.next, h.next + h.len⟩ := by
  unfold parseString
  cases validateTag s c fin tag e with
  | error x => rfl
  | ok h =>
    simp only [Except.bind, Except.ok_bind']
    by_cases h2 : fin < h.next + h.len
    · simp [h2]
    · simp [h2]

/-- A scalar parse that answers read its tag, its length header and its value inside the window (R108). -/
theorem parseScalar_eq_ok_iff {s : State} {c fin : Nat} {tag : Byte} {w : Nat} {e : CmdError} {v : ScalarTlv} :
    parseScalar s c fin tag w e = .ok v ↔
      s.byteAt c = tag ∧ w ≤ s.declaredLen (c + 1) ∧
        c + 1 + s.headerSize (c + 1) + s.declaredLen (c + 1) ≤ fin ∧
        v = ⟨s.memRead (c + 1 + s.headerSize (c + 1)) w, s.declaredLen (c + 1), c + 1 + s.headerSize (c + 1),
          c + 1 + s.headerSize (c + 1) + s.declaredLen (c + 1)⟩ := by
  rw [parseScalar_eq]
  cases hv : validateTag s c fin tag e with
  | error x =>
    have hn : ¬ (s.byteAt c = tag ∧ c + 1 + s.headerSize (c + 1) ≤ fin) := by
      rintro ⟨h1, h2⟩
      rw [validateTag_ok h1 h2] at hv
      cases hv
    simp only [Except.bind]
    constructor
    · intro h; cases h
    · rintro ⟨h1, h2, h3, -⟩
      exact absurd ⟨h1, by omega⟩ hn
  | ok f =>
    obtain ⟨h1, h2, rfl⟩ := validateTag_eq_ok_iff.1 hv
    simp only [Except.bind]
    split
    · constructor
      · intro h; cases h
      · rintro ⟨-, h, -⟩; omega
    · split
      · constructor
        · intro h; cases h
        · rintro ⟨-, -, h, -⟩; omega
      · rename_i h3 h4
        rw [Except.ok.injEq]
        constructor
        · rintro rfl; exact ⟨h1, by omega, by omega, rfl⟩
        · rintro ⟨-, -, -, rfl⟩; rfl

/-- A string parse that answers read its tag, its length header and its string inside the window (R109). -/
theorem parseString_eq_ok_iff {s : State} {c fin : Nat} {tag : Byte} {e : CmdError} {v : StringTlv} :
    parseString s c fin tag e = .ok v ↔
      s.byteAt c = tag ∧ c + 1 + s.headerSize (c + 1) + s.declaredLen (c + 1) ≤ fin ∧
        v = ⟨s.declaredLen (c + 1), c + 1 + s.headerSize (c + 1),
          c + 1 + s.headerSize (c + 1) + s.declaredLen (c + 1)⟩ := by
  rw [parseString_eq]
  cases hv : validateTag s c fin tag e with
  | error x =>
    have hn : ¬ (s.byteAt c = tag ∧ c + 1 + s.headerSize (c + 1) ≤ fin) := by
      rintro ⟨h1, h2⟩
      rw [validateTag_ok h1 h2] at hv
      cases hv
    simp only [Except.bind]
    constructor
    · intro h; cases h
    · rintro ⟨h1, h3, -⟩
      exact absurd ⟨h1, by omega⟩ hn
  | ok f =>
    obtain ⟨h1, h2, rfl⟩ := validateTag_eq_ok_iff.1 hv
    simp only [Except.bind]
    split
    · constructor
      · intro h; cases h
      · rintro ⟨-, h, -⟩; omega
    · rw [Except.ok.injEq]
      constructor
      · rintro rfl; exact ⟨h1, by omega, rfl⟩
      · rintro ⟨-, -, rfl⟩; rfl

/-! ## Images and the store at CUR -/

/-- The image of a scalar of natural width at most 127: tag, one length byte, value (R110). -/
theorem scalarImage_eq {w : Nat} (hw : w ≤ 127) (tag : Byte) (v : Nat) :
    scalarImage tag w v = tag :: BitVec.ofNat 8 w :: beBytes w (v % 2 ^ (8 * w)) := by
  simp [scalarImage, lenHdrBytes, hw]

theorem stringImage_eq {bs : List Byte} (h : bs.length ≤ 65535) (tag : Byte) :
    stringImage tag bs = tag :: (minimalHeader bs.length ++ bs) := by
  simp [stringImage, lenHdrBytes_eq h]

/-- The store at CUR, and what it refuses (R113, R121, R128). -/
theorem emitAtCur_eq (s : State) (img : List Byte) :
    emitAtCur s img =
      if s.cur.toNat + img.length ≤ s.winEnd then
        .ok { s.writeBytes s.cur.toNat img with cur := BitVec.ofNat 32 (s.cur.toNat + img.length) }
      else .error (.raise outOfBounds) := by
  unfold emitAtCur
  by_cases h : s.cur.toNat + img.length ≤ s.winEnd
  · simp [h, Nat.not_lt.2 h]
  · simp [h, Nat.lt_of_not_le h]

/-- The window ends inside BUF. -/
theorem State.winEnd_le (s : State) : s.winEnd ≤ s.params.bufSize := Nat.min_le_right _ _

/-- The window ends inside 32 bits, whatever BUF_SIZE is, because LIM does. -/
theorem State.winEnd_lt (s : State) : s.winEnd < 2 ^ 32 := Nat.lt_of_le_of_lt (Nat.min_le_left _ _) s.lim.isLt

/-- A span lies in the window exactly when it ends by the window's end (R64, R102). -/
theorem inWin_iff (s : State) (a n : Nat) : InWin s a n ↔ a + n ≤ s.winEnd := by
  simp only [InWin, InBuf, State.winEnd]
  omega

/-- Storing a byte string at an offset: it reads back, and every other byte is as before. -/
theorem storesAt_of_buf {s t : State} {a : Nat} {bs : List Byte} (hb : t.buf = Memory.writeBytes s.buf a bs)
    (hr : t.resets = s.resets) : StoresAt s t a bs := by
  have h1 : t.bytesAt = (s.writeBytes a bs).bytesAt := State.bytesAt_eq hb hr
  have h2 : t.byteAt = (s.writeBytes a bs).byteAt := State.byteAt_congr hb hr
  rw [StoresAt, h1, h2]
  exact ⟨State.bytesAt_writeBytes_same s a bs, fun _ hx => State.byteAt_writeBytes_outside s bs hx⟩

/-- Any slice of a stored byte string reads back. -/
theorem bytesAt_of_buf {s t : State} {a : Nat} {bs : List Byte} (hb : t.buf = Memory.writeBytes s.buf a bs)
    (hr : t.resets = s.resets) (o n : Nat) (h : o + n ≤ bs.length) : t.bytesAt (a + o) n = (bs.drop o).take n := by
  have h1 := (storesAt_of_buf hb hr).1
  have h2 : bs = bs.take o ++ (bs.drop o).take n ++ (bs.drop o).drop n := by simp
  rw [show bs.length = o + (n + (bs.length - o - n)) by omega, State.bytesAt_append, State.bytesAt_append,
    ← List.append_assoc, h2] at h1
  have h3 := (List.append_inj h1 (by simp; omega)).1
  exact (List.append_inj h3 (by simp; omega)).2

theorem byteAt_of_buf {s t : State} {a : Nat} {bs : List Byte} (hb : t.buf = Memory.writeBytes s.buf a bs)
    (hr : t.resets = s.resets) {o : Nat} (h : o < bs.length) : t.byteAt (a + o) = bs[o] := by
  rw [show t.byteAt = (s.writeBytes a bs).byteAt from State.byteAt_congr hb hr, State.byteAt_writeBytes_inside _ _ _ h]

/-- The state a completed command leaves reads as the state its rule computed, but for STATUS. -/
theorem State.setRes_byteAt (s : State) (r : BitVec 2) : (s.setRes r).byteAt = s.byteAt := rfl

theorem State.setRes_bytesAt (s : State) (r : BitVec 2) : (s.setRes r).bytesAt = s.bytesAt := State.bytesAt_eq rfl rfl

theorem State.setRes_memRead (s : State) (r : BitVec 2) : (s.setRes r).memRead = s.memRead := State.memRead_eq rfl rfl

end Sys2Proof.Machine
end

