-- ==== Sys2Proof/Laws/Signature.lean ====
section
/-! SUPPORT. What the checksum and signature operations do: the lengths of digests and MACs, the checks of the
signature operands, the signature check, and what each depends on. -/

namespace Sys2Proof.Machine

/-! ## Lengths -/

@[simp] theorem length_shaDigest (st : List Word) : (shaDigest st).length = 32 := by
  simp [shaDigest]

@[simp] theorem length_sha256 (m : List Byte) : (sha256 m).length = 32 := by
  simp [sha256]

/-- A digest is 32 bytes (R156). -/
@[simp] theorem length_hmacSha256 (k m : List Byte) : (hmacSha256 k m).length = 32 := by
  simp [hmacSha256]

/-- The MAC has exactly the bytes the trailer table gives it, whatever the AES-based MAC is (R151, R155). -/
@[simp] theorem length_computeMac (alg : SigAlg) (k m : List Byte) :
    (computeMac alg k m).length = alg.trailerLen - 1 := by
  cases alg <;> simp [computeMac, SigAlg.tier, SigAlg.macLen, SigAlg.trailerLen]

@[simp] theorem length_frameMac (s : State) (b pe : Nat) (alg : SigAlg) :
    (frameMac s b pe alg).length = alg.trailerLen - 1 := length_computeMac ..

theorem SigAlg.trailerLen_pos {alg : SigAlg} (h : alg ≠ .none) : 9 ≤ alg.trailerLen := by
  cases alg <;> first | exact absurd rfl h | simp [SigAlg.trailerLen]

theorem SigAlg.trailerLen_le (alg : SigAlg) : alg.trailerLen ≤ 33 := by
  cases alg <;> simp [SigAlg.trailerLen]

theorem SigAlg.macLen_eq (alg : SigAlg) : alg.macLen = alg.trailerLen - 1 := rfl

/-! ## What a MAC depends on -/

/-- The MAC of a frame depends on the key and on the bytes of the signed span only (R153, R155). -/
theorem frameMac_congr {s t : State} {b pe : Nat} {alg : SigAlg} (hk : s.key = t.key) (hl : s.keyLen = t.keyLen)
    (h : ∀ i, 2 ≤ i → i < pe → s.byteAt (b + i) = t.byteAt (b + i)) : frameMac s b pe alg = frameMac t b pe alg := by
  have hkb : s.keyBytes = t.keyBytes := by
    simp [State.keyBytes, State.keyByte, hk, hl]
  have hsp : s.bytesAt (b + Config.sigSpanStart) (pe - Config.sigSpanStart) =
      t.bytesAt (b + Config.sigSpanStart) (pe - Config.sigSpanStart) := by
    refine State.bytesAt_congr fun i hi => ?_
    simp only [Config.sigSpanStart] at hi ⊢
    have := h (2 + i) (by omega) (by omega)
    rwa [← Nat.add_assoc] at this
  rw [frameMac, frameMac, hkb, hsp]

/-! ## Operands and the signature check -/

theorem legalSigAlg_eq_ok_iff {p : Params} {code : Byte} {alg : SigAlg} :
    legalSigAlg p code = .ok alg ↔ sigAlgOf p code = some alg := by
  unfold legalSigAlg
  cases sigAlgOf p code <;> simp

theorem legalSigAlg_of_none {p : Params} {code : Byte} (h : sigAlgOf p code = none) :
    legalSigAlg p code = .error (.raise (.protocol .unsupportedSignatureAlgorithm code)) := by
  simp [legalSigAlg, h]

/-- The checks of SIG.GEN and SIG.VERIFY, in the order of R159. -/
theorem sigOperands_eq (s : State) {alg : SigAlg} (h : sigAlgOf s.params s.sSigAlg = some alg) :
    sigOperands s =
      if s.len.toNat < 2 + alg.trailerLen then .error (.raise (.plain .badArgument))
      else if s.params.bufSize < s.src.toNat + s.len.toNat then .error (.raise outOfBounds) else .ok alg := by
  unfold sigOperands
  rw [legalSigAlg_eq_ok_iff.2 h, Except.ok_bind']
  by_cases h1 : s.len.toNat < 2 + alg.trailerLen
  · rw [raiseIf_pos (show s.len.toNat < Config.sigSpanStart + alg.trailerLen from h1), if_pos h1]
    rfl
  · rw [raiseIf_neg (show ¬ s.len.toNat < Config.sigSpanStart + alg.trailerLen from h1), if_neg h1,
      Except.ok_bind']
    by_cases h2 : s.params.bufSize < s.src.toNat + s.len.toNat
    · rw [raiseIf_pos (by simpa [InBuf] using h2), if_pos h2]
      rfl
    · rw [raiseIf_neg (by simpa [InBuf] using h2), if_neg h2]
      rfl

theorem sigOperands_of_none (s : State) (h : sigAlgOf s.params s.sSigAlg = none) :
    sigOperands s = .error (.raise (.protocol .unsupportedSignatureAlgorithm s.sSigAlg)) := by
  rw [sigOperands, legalSigAlg_of_none h, Except.error_bind']

/-- Operands that pass are legal, leave room for the span and the trailer, and lie in BUF (R159). -/
theorem sigOperands_eq_ok_iff {s : State} {alg : SigAlg} :
    sigOperands s = .ok alg ↔ sigAlgOf s.params s.sSigAlg = some alg ∧ 2 + alg.trailerLen ≤ s.len.toNat ∧
      s.src.toNat + s.len.toNat ≤ s.params.bufSize := by
  cases h : sigAlgOf s.params s.sSigAlg with
  | none => simp [sigOperands_of_none s h]
  | some a =>
    rw [sigOperands_eq s h]
    split
    · simp
      rintro rfl
      omega
    · split
      · simp
        rintro rfl
        omega
      · simp
        rintro rfl
        omega

/-- The signature check of a signed frame, in the order of R157. -/
theorem sigCheck_eq (s : State) (b flen : Nat) {alg : SigAlg} (h : alg ≠ .none) :
    sigCheck s b flen alg =
      if s.byteAt (b + (flen - alg.trailerLen)) ≠ 0x85 then
        .error (.raise ⟨.missingSignatureTag, .none, s.byteAt (b + (flen - alg.trailerLen))⟩)
      else if 64 < s.keyLen.toNat then .error (.raise (.plain .badArgument))
      else if MacMatches s b (flen - alg.trailerLen) alg then .ok false
      else if s.config.getLsbD 0 = true then .ok true
      else .error (.raise (.plain .signatureMismatch)) := by
  unfold sigCheck
  rw [if_neg h]
  dsimp only
  by_cases h1 : s.byteAt (b + (flen - alg.trailerLen)) ≠ 0x85
  · rw [if_pos h1, raiseIf_pos (show _ ≠ Config.sigMarker from h1)]
    rfl
  · rw [if_neg h1, raiseIf_neg (show ¬ _ ≠ Config.sigMarker from h1), Except.ok_bind']
    by_cases h2 : 64 < s.keyLen.toNat
    · rw [if_pos h2, checkKeyLen, raiseIf_pos h2]
      rfl
    · rw [if_neg h2, checkKeyLen, raiseIf_neg h2, Except.ok_bind']
      rfl

theorem sigCheck_none (s : State) (b flen : Nat) : sigCheck s b flen .none = .ok false := rfl

/-- A signature check that passes (R157): nothing to check, or the marker with a key in range, and a MAC that
matches or a mismatch that CONFIG ignores. -/
theorem sigCheck_eq_ok_iff {s : State} {b flen : Nat} {alg : SigAlg} {f : Bool} :
    sigCheck s b flen alg = .ok f ↔
      (alg = .none ∧ f = false) ∨
      (alg ≠ .none ∧ s.byteAt (b + (flen - alg.trailerLen)) = 0x85 ∧ s.keyLen.toNat ≤ 64 ∧
        ((MacMatches s b (flen - alg.trailerLen) alg ∧ f = false) ∨
         (¬ MacMatches s b (flen - alg.trailerLen) alg ∧ s.config.getLsbD 0 = true ∧ f = true))) := by
  constructor
  · by_cases h : alg = .none
    · subst h
      rw [sigCheck_none, Except.ok.injEq]
      rintro rfl
      exact .inl ⟨rfl, rfl⟩
    · rw [sigCheck_eq s b flen h]
      intro hc
      refine .inr ⟨h, ?_⟩
      split at hc
      · cases hc
      · rename_i h1
        split at hc
        · cases hc
        · rename_i h2
          refine ⟨not_not.1 h1, by omega, ?_⟩
          split at hc
          · rename_i h3
            exact .inl ⟨h3, (Except.ok.inj hc).symm⟩
          · rename_i h3
            split at hc
            · rename_i h4
              exact .inr ⟨h3, h4, (Except.ok.inj hc).symm⟩
            · cases hc
  · rintro (⟨rfl, rfl⟩ | ⟨h, h1, h2, ⟨h3, rfl⟩ | ⟨h3, h4, rfl⟩⟩)
    · rfl
    · rw [sigCheck_eq s b flen h, if_neg (not_not.2 h1), if_neg (by omega), if_pos h3]
    · rw [sigCheck_eq s b flen h, if_neg (not_not.2 h1), if_neg (by omega), if_neg h3, if_pos h4]

end Sys2Proof.Machine
end

