-- ==== Sys2Proof/Laws/Time.lean ====
section
/-! SUPPORT. What the time conversions compute, and their bounds in exact arithmetic. -/

namespace Sys2Proof.Machine

/-! ## Checks -/

theorem checkTimebase_ok {tb : Nat} (h : 1 ≤ tb ∧ tb ≤ 16777216) : checkTimebase tb = .ok () :=
  raiseIf_neg (by simp [Config.timebaseStd]; omega) _

theorem checkTimebase_error {tb : Nat} (h : tb < 1 ∨ 16777216 < tb) :
    checkTimebase tb = .error (.raise (.plain .badArgument)) :=
  raiseIf_pos (by simpa [Config.timebaseStd] using h) _

theorem checkTimebase_eq_ok_iff {tb : Nat} {u : Unit} : checkTimebase tb = .ok u ↔ 1 ≤ tb ∧ tb ≤ 16777216 := by
  rw [checkTimebase, raiseIf_eq_ok_iff]
  simp [Config.timebaseStd]
  omega

theorem checkNanos_ok {ns : Nat} (h : ns < 1000000000) : checkNanos ns = .ok () :=
  raiseIf_neg (by simpa [Config.nsPerS] using h) _

theorem checkNanos_error {ns : Nat} (h : 1000000000 ≤ ns) :
    checkNanos ns = .error (.raise (.plain .badArgument)) :=
  raiseIf_pos h _

theorem checkNanos_eq_ok_iff {ns : Nat} {u : Unit} : checkNanos ns = .ok u ↔ ns < 1000000000 := by
  rw [checkNanos, raiseIf_eq_ok_iff]
  simp [Config.nsPerS]

/-! ## Bounds of the rounded fractions -/

/-- The fraction of R172 before its carry is at most the timebase. -/
theorem toWire_fraction_le {ns tb : Nat} (h : ns < 1000000000) :
    (ns * tb + 500000000) / 1000000000 ≤ tb := by
  have h1 : ns * tb ≤ 999999999 * tb := Nat.mul_le_mul_right tb (by omega)
  omega

/-- The frame index of R174 is at most the frame rate. -/
theorem toWireHp_index_le {ns fps : Nat} (h : ns < 1000000000) :
    (ns * fps + 500000000) / 1000000000 ≤ fps := toWire_fraction_le h

/-- The fraction of R174 before its carry is at most the timebase. -/
theorem toWireHp_fraction_le {tb k fps : Nat} (hk : k ≤ fps) (hf : 1 ≤ fps) :
    (tb * k + fps / 2) / fps ≤ tb := by
  have h1 : tb * k ≤ tb * fps := Nat.mul_le_mul_left tb hk
  have h2 : (tb * k + fps / 2) / fps ≤ (tb * fps + fps / 2) / fps := Nat.div_le_div_right (by omega)
  have h3 : (tb * fps + fps / 2) / fps = tb + fps / 2 / fps := by
    rw [Nat.add_comm, Nat.add_mul_div_right _ _ (by omega), Nat.add_comm]
  have h4 : fps / 2 / fps = 0 := Nat.div_eq_of_lt (by omega)
  omega

/-- The carry leaves a fraction below the timebase (R173). -/
theorem carry_frac_lt {sec f tb : Nat} (ht : 1 ≤ tb) (hf : f ≤ tb) : (carry sec f tb).frac < tb := by
  unfold carry
  split
  · exact ht
  · show f < tb
    omega

theorem carry_soc_lt {sec f tb : Nat} (h : sec < 2 ^ 32) : (carry sec f tb).soc < 2 ^ 32 := by
  unfold carry
  split
  · exact Nat.mod_lt _ (by decide)
  · exact h

theorem toWire_frac_lt {sec ns tb : Nat} (ht : 1 ≤ tb) (h : ns < 1000000000) : (toWire sec ns tb).frac < tb :=
  carry_frac_lt ht (toWire_fraction_le h)

theorem toWire_soc_lt {sec ns tb : Nat} (h : sec < 2 ^ 32) : (toWire sec ns tb).soc < 2 ^ 32 := carry_soc_lt h

theorem toWireHp_frac_lt {sec ns tb fps : Nat} (ht : 1 ≤ tb) (hf : 1 ≤ fps) (h : ns < 1000000000) :
    (toWireHp sec ns tb fps).frac < tb :=
  carry_frac_lt ht (toWireHp_fraction_le (toWireHp_index_le h) hf)

theorem toWireHp_soc_lt {sec ns tb fps : Nat} (h : sec < 2 ^ 32) : (toWireHp sec ns tb fps).soc < 2 ^ 32 :=
  carry_soc_lt h

theorem toWireAtRate_frac_lt {sec ns tb fps : Nat} (ht : 1 ≤ tb) (h : ns < 1000000000) :
    (toWireAtRate sec ns tb fps).frac < tb := by
  unfold toWireAtRate
  split
  · exact toWire_frac_lt ht h
  · exact toWireHp_frac_lt ht (by omega) h

theorem toWireAtRate_soc_lt {sec ns tb fps : Nat} (h : sec < 2 ^ 32) :
    (toWireAtRate sec ns tb fps).soc < 2 ^ 32 := by
  unfold toWireAtRate
  split
  · exact toWire_soc_lt h
  · exact toWireHp_soc_lt h

/-- Masking leaves a fraction word as it is when the mask's bits all lie at or above bit 24 and the fraction's all
lie below it. -/
theorem mask_fraction {fw mask : Word} (hf : fw.toNat < 2 ^ 24) (hm : mask &&& 0x00FFFFFF = 0) :
    fw &&& ~~~mask = fw := by
  refine BitVec.eq_of_getLsbD_eq fun i hi => ?_
  rw [BitVec.getLsbD_and, BitVec.getLsbD_not, decide_eq_true hi, Bool.true_and]
  by_cases h24 : i < 24
  · have h1 := congrArg (fun x : Word => x.getLsbD i) hm
    have hc : (0x00FFFFFF : Word).getLsbD i = true := by
      interval_cases i <;> rfl
    simp only [BitVec.getLsbD_and, hc, Bool.and_true] at h1
    rw [h1]
    simp
  · have h1 : fw.getLsbD i = false :=
      Nat.testBit_lt_two_pow (Nat.lt_of_lt_of_le hf (Nat.pow_le_pow_right (by decide) (by omega)))
    rw [h1]
    rfl

/-- R176 in the terms of claims: whole seconds carry, the rest are nanoseconds. -/
theorem fromWire_eq (soc : Nat) (fw mask : Word) (tb : Nat) :
    fromWire soc fw mask tb =
      ⟨(soc + nanosOf fw mask tb / 1000000000) % 2 ^ 32, nanosOf fw mask tb % 1000000000⟩ := rfl

end Sys2Proof.Machine
end

