-- ==== Sys2Proof/Laws/Outcomes.lean ====
section
/-! SUPPORT. What a rule can answer: for every command's rule, what it leaves unchanged when it completes, the errors
it can raise, and whether it can defer. -/

namespace Sys2Proof.Machine

/-! ## Errors -/

/-- The KIND and REASON fields of an error's word (R236). -/
@[simp] theorem errCodes_word (e : CmdError) : errCodes e.word = (e.kind.code.toNat, e.reason.code.toNat) := by
  have hi := e.info.isLt
  have hr := e.reason.code.isLt
  have hk := e.kind.code.isLt
  have h1 : e.word.extractLsb' 0 8 = e.kind.code := by
    refine BitVec.eq_of_getLsbD_eq fun i h => ?_
    simp only [CmdError.word, BitVec.getLsbD_extractLsb', BitVec.getLsbD_append, h, decide_true, Bool.true_and]
    rw [if_pos (by omega)]
    congr 1
    omega
  have h2 : e.word.extractLsb' 8 8 = e.reason.code := by
    refine BitVec.eq_of_getLsbD_eq fun i h => ?_
    simp only [CmdError.word, BitVec.getLsbD_extractLsb', BitVec.getLsbD_append, h, decide_true, Bool.true_and]
    rw [if_neg (by omega), if_pos (by omega)]
    congr 1
    omega
  rw [errCodes, h1, h2]

/-- The INFO field of an error's word (R236). -/
@[simp] theorem errInfo_word (e : CmdError) : errInfo e.word = e.info := by
  refine BitVec.eq_of_getLsbD_eq fun i h => ?_
  simp only [errInfo, CmdError.word, BitVec.getLsbD_extractLsb', BitVec.getLsbD_append, h, decide_true, Bool.true_and]
  rw [if_neg (by omega), if_neg (by omega)]
  congr 1
  omega

/-- No error's word is 0: every kind has a code other than 0 (R231). -/
theorem CmdError.word_ne_zero (e : CmdError) : e.word ≠ 0 := by
  intro h
  have h1 := errCodes_word e
  rw [h] at h1
  have h2 : e.kind.code.toNat = 0 := (Prod.mk.inj h1).1.symm
  revert h2
  cases e.kind <;> decide

/-- An error of the tables: its kind and reason are listed, and its information byte is 0 where the table names
none (R231 to R233). -/
def CmdError.Listed (e : CmdError) (l : List (Nat × Nat)) : Prop :=
  errCodes e.word ∈ l ∧ legalErr e.word = true

theorem CmdError.listed_plain {k : ErrKind} {l : List (Nat × Nat)} (h : (k.code.toNat, 0) ∈ l)
    (hr : (k.code.toNat, 0) ∈ raisedCodes) : (CmdError.plain k).Listed l := by
  have hc : errCodes (CmdError.plain k).word = (k.code.toNat, 0) := errCodes_word _
  have hi : errInfo (CmdError.plain k).word = 0 := errInfo_word _
  refine ⟨hc ▸ h, ?_⟩
  simp [legalErr, hc, hi, hr]

theorem CmdError.listed_named {e : CmdError} {l : List (Nat × Nat)} {k r : Nat} (hk : e.kind.code.toNat = k)
    (hr : e.reason.code.toNat = r) (h : (k, r) ∈ l) (hn : (k, r) ∈ raisedCodes) (hm : (k, r) ∈ namedInfoCodes) :
    e.Listed l := by
  subst hk hr
  have hc := errCodes_word e
  refine ⟨hc ▸ h, ?_⟩
  simp [legalErr, hn, hm]

theorem CmdError.listed_zero {e : CmdError} {l : List (Nat × Nat)} {k r : Nat} (hk : e.kind.code.toNat = k)
    (hr : e.reason.code.toNat = r) (hi : e.info = 0) (h : (k, r) ∈ l) (hn : (k, r) ∈ raisedCodes) : e.Listed l := by
  subst hk hr
  have hc := errCodes_word e
  refine ⟨hc ▸ h, ?_⟩
  simp [legalErr, hn, hi]

/-- Every error the pseudocode can end in satisfies P. -/
def Raises {α : Type} (x : Except Stop α) (P : CmdError → Prop) : Prop := ∀ e, x = .error (.raise e) → P e

/-- The pseudocode never ends in `need`. -/
def NeverDefers {α : Type} (x : Except Stop α) : Prop := ∀ n, x ≠ .error (.need n)

theorem raises_ok {α : Type} {a : α} {P : CmdError → Prop} : Raises (.ok a : Except Stop α) P :=
  fun _ h => nomatch h

theorem raises_pure {α : Type} {a : α} {P : CmdError → Prop} : Raises (pure a : Except Stop α) P :=
  fun _ h => nomatch h

theorem raises_error {α : Type} {e : CmdError} {P : CmdError → Prop} (h : P e) :
    Raises (.error (.raise e) : Except Stop α) P := by
  rintro e' h'
  cases h'
  exact h

theorem raises_bind {α β : Type} {x : Except Stop α} {f : α → Except Stop β} {P : CmdError → Prop}
    (hx : Raises x P) (hf : ∀ a, Raises (f a) P) : Raises (x >>= f) P := by
  intro e h
  rcases Except.bind_eq_error_iff.1 h with h | ⟨a, -, h⟩
  · exact hx e h
  · exact hf a e h

theorem raises_raiseIf {p : Prop} [Decidable p] {e : CmdError} {P : CmdError → Prop} (h : P e) :
    Raises (raiseIf p e) P := by
  intro e' h'
  obtain ⟨-, h⟩ := raiseIf_eq_error_iff.1 h'
  cases h
  assumption

theorem raises_needIf {p : Prop} [Decidable p] {n : Nat} {P : CmdError → Prop} : Raises (needIf p n) P := by
  intro e' h'
  obtain ⟨-, h⟩ := needIf_eq_error_iff.1 h'
  cases h

theorem raises_ite {α : Type} {p : Prop} [Decidable p] {x y : Except Stop α} {P : CmdError → Prop}
    (hx : Raises x P) (hy : Raises y P) : Raises (if p then x else y) P := by
  split <;> assumption

theorem neverDefers_ok {α : Type} {a : α} : NeverDefers (.ok a : Except Stop α) := fun _ h => nomatch h

theorem neverDefers_pure {α : Type} {a : α} : NeverDefers (pure a : Except Stop α) := fun _ h => nomatch h

theorem neverDefers_error {α : Type} {e : CmdError} : NeverDefers (.error (.raise e) : Except Stop α) :=
  fun _ h => nomatch h

theorem neverDefers_bind {α β : Type} {x : Except Stop α} {f : α → Except Stop β} (hx : NeverDefers x)
    (hf : ∀ a, NeverDefers (f a)) : NeverDefers (x >>= f) := by
  intro n h
  rcases Except.bind_eq_error_iff.1 h with h | ⟨a, -, h⟩
  · exact hx n h
  · exact hf a n h

theorem neverDefers_raiseIf {p : Prop} [Decidable p] {e : CmdError} : NeverDefers (raiseIf p e) := by
  intro n h
  cases (raiseIf_eq_error_iff.1 h).2

theorem neverDefers_ite {α : Type} {p : Prop} [Decidable p] {x y : Except Stop α} (hx : NeverDefers x)
    (hy : NeverDefers y) : NeverDefers (if p then x else y) := by
  split <;> assumption

/-! ## The helpers: errors -/

section
variable {P : CmdError → Prop}

theorem raises_parseTagLength {s : State} {c fin : Nat} {e : CmdError} (he : P e) :
    Raises (parseTagLength s c fin e) P := by
  rw [parseTagLength_eq]
  exact raises_ite raises_ok (raises_error he)

theorem raises_validateTag {s : State} {c fin : Nat} {tag : Byte} {e : CmdError} (he : P e)
    (ht : ∀ b, P (.protocol .unexpectedTag b)) : Raises (validateTag s c fin tag e) P :=
  raises_bind (raises_raiseIf he) fun _ =>
    raises_bind (raises_raiseIf (ht _)) fun _ => raises_parseTagLength he

theorem raises_parseScalar {s : State} {c fin : Nat} {tag : Byte} {w : Nat} {e : CmdError} (he : P e)
    (ht : ∀ b, P (.protocol .unexpectedTag b)) (hl : ∀ b, P (.protocol .lengthTooShort b)) :
    Raises (parseScalar s c fin tag w e) P :=
  raises_bind (raises_validateTag he ht) fun _ =>
    raises_bind (raises_raiseIf (hl _)) fun _ => raises_bind (raises_raiseIf he) fun _ => raises_pure

theorem raises_parseString {s : State} {c fin : Nat} {tag : Byte} {e : CmdError} (he : P e)
    (ht : ∀ b, P (.protocol .unexpectedTag b)) : Raises (parseString s c fin tag e) P :=
  raises_bind (raises_validateTag he ht) fun _ => raises_bind (raises_raiseIf he) fun _ => raises_pure

theorem raises_emitAtCur {s : State} {img : List Byte} (he : P outOfBounds) : Raises (emitAtCur s img) P :=
  raises_bind (raises_raiseIf he) fun _ => raises_pure

theorem raises_lenHdr {n : Nat} (he : P (.plain .valueTooLarge)) : Raises (lenHdr n) P :=
  raises_bind (raises_raiseIf he) fun _ => raises_pure

theorem raises_legalSigAlg {p : Params} {code : Byte} (h : P (.protocol .unsupportedSignatureAlgorithm code)) :
    Raises (legalSigAlg p code) P := by
  unfold legalSigAlg
  split
  · exact raises_ok
  · exact raises_error h

theorem raises_sigOperands {s : State} (h1 : P (.protocol .unsupportedSignatureAlgorithm s.sSigAlg))
    (h2 : P (.plain .badArgument)) (h3 : P outOfBounds) : Raises (sigOperands s) P :=
  raises_bind (raises_legalSigAlg h1) fun _ =>
    raises_bind (raises_raiseIf h2) fun _ => raises_bind (raises_raiseIf h3) fun _ => raises_pure

theorem raises_sigCheck {s : State} {b flen : Nat} {alg : SigAlg} (h1 : ∀ b, P ⟨.missingSignatureTag, .none, b⟩)
    (h2 : P (.plain .badArgument)) (h3 : P (.plain .signatureMismatch)) : Raises (sigCheck s b flen alg) P := by
  unfold sigCheck
  exact raises_ite raises_ok <| raises_bind (raises_raiseIf (h1 _)) fun _ =>
    raises_bind (raises_raiseIf h2) fun _ => raises_ite raises_pure (raises_ite raises_pure (raises_error h3))

theorem raises_checkTimebase {tb : Nat} (h : P (.plain .badArgument)) : Raises (checkTimebase tb) P :=
  raises_raiseIf h

theorem raises_checkNanos {ns : Nat} (h : P (.plain .badArgument)) : Raises (checkNanos ns) P := raises_raiseIf h

theorem raises_detect {s : State} {b a : Nat} (h : P (.protocol .unknownFormat (s.byteAt b))) :
    Raises (detect s b a) P :=
  raises_bind raises_needIf fun _ => raises_ite raises_pure (raises_ite raises_pure (raises_error h))

theorem raises_readField {s : State} {b pe o n : Nat} (h : P (.protocol .truncated 0)) :
    Raises (readField s b pe o n) P :=
  raises_bind (raises_raiseIf h) fun _ => raises_pure

end

/-! ## The helpers: no deferral -/

theorem neverDefers_parseTagLength {s : State} {c fin : Nat} {e : CmdError} :
    NeverDefers (parseTagLength s c fin e) := by
  rw [parseTagLength_eq]
  exact neverDefers_ite neverDefers_ok neverDefers_error

theorem neverDefers_validateTag {s : State} {c fin : Nat} {tag : Byte} {e : CmdError} :
    NeverDefers (validateTag s c fin tag e) :=
  neverDefers_bind neverDefers_raiseIf fun _ =>
    neverDefers_bind neverDefers_raiseIf fun _ => neverDefers_parseTagLength

theorem neverDefers_parseScalar {s : State} {c fin : Nat} {tag : Byte} {w : Nat} {e : CmdError} :
    NeverDefers (parseScalar s c fin tag w e) :=
  neverDefers_bind neverDefers_validateTag fun _ =>
    neverDefers_bind neverDefers_raiseIf fun _ => neverDefers_bind neverDefers_raiseIf fun _ => neverDefers_pure

theorem neverDefers_parseString {s : State} {c fin : Nat} {tag : Byte} {e : CmdError} :
    NeverDefers (parseString s c fin tag e) :=
  neverDefers_bind neverDefers_validateTag fun _ => neverDefers_bind neverDefers_raiseIf fun _ => neverDefers_pure

theorem neverDefers_emitAtCur {s : State} {img : List Byte} : NeverDefers (emitAtCur s img) :=
  neverDefers_bind neverDefers_raiseIf fun _ => neverDefers_pure

theorem neverDefers_legalSigAlg {p : Params} {code : Byte} : NeverDefers (legalSigAlg p code) := by
  unfold legalSigAlg
  split
  · exact neverDefers_ok
  · exact neverDefers_error

theorem neverDefers_sigOperands {s : State} : NeverDefers (sigOperands s) :=
  neverDefers_bind neverDefers_legalSigAlg fun _ =>
    neverDefers_bind neverDefers_raiseIf fun _ => neverDefers_bind neverDefers_raiseIf fun _ => neverDefers_pure

theorem neverDefers_sigCheck {s : State} {b flen : Nat} {alg : SigAlg} : NeverDefers (sigCheck s b flen alg) := by
  unfold sigCheck
  exact neverDefers_ite neverDefers_ok <| neverDefers_bind neverDefers_raiseIf fun _ =>
    neverDefers_bind neverDefers_raiseIf fun _ =>
      neverDefers_ite neverDefers_pure (neverDefers_ite neverDefers_pure neverDefers_error)

theorem neverDefers_readField {s : State} {b pe o n : Nat} : NeverDefers (readField s b pe o n) :=
  neverDefers_bind neverDefers_raiseIf fun _ => neverDefers_pure

theorem neverDefers_parseAsduPrefix {s : State} {b pe : Nat} : NeverDefers (parseAsduPrefix s b pe) :=
  neverDefers_bind neverDefers_validateTag fun _ =>
    neverDefers_bind neverDefers_parseScalar fun _ =>
      neverDefers_bind neverDefers_raiseIf fun _ => neverDefers_bind neverDefers_validateTag fun _ => neverDefers_pure

end Sys2Proof.Machine
end

