-- ==== Sys2Proof/Laws/Header.lean ====
section
/-! SUPPORT. What the header operations do, said once each: detection, the plain parse, the session parse and the
session generator. -/

namespace Sys2Proof.Machine

/-! ## Detection -/

/-- Detection by cases, the sync byte before the CLTP tag (R192, R193). -/
theorem detect_eq (s : State) (b a : Nat) :
    detect s b a =
      if a < 2 then .error (.need 2)
      else if s.byteAt b = s.params.syncByte then .ok .plain
      else if s.byteAt (b + 1) = s.params.cltpTag then .ok .session
      else .error (.raise (.protocol .unknownFormat (s.byteAt b))) := by
  unfold detect
  by_cases h : a < 2
  · rw [needIf_pos h, if_pos h]
    rfl
  · rw [needIf_neg h, if_neg h]
    rfl

theorem checkAvailable_ok {s : State} (h : s.src.toNat + s.len.toNat ≤ s.params.bufSize) :
    checkAvailable s = .ok () := raiseIf_neg (not_not.2 h) _

theorem checkAvailable_error {s : State} (h : s.params.bufSize < s.src.toNat + s.len.toNat) :
    checkAvailable s = .error (.raise outOfBounds) := raiseIf_pos (Nat.not_le.2 h) _

theorem checkAvailable_eq_ok_iff {s : State} {u : Unit} :
    checkAvailable s = .ok u ↔ s.src.toNat + s.len.toNat ≤ s.params.bufSize := by
  rw [checkAvailable, raiseIf_eq_ok_iff, not_not]

/-! ## The plain frame -/

theorem legalFrameType_iff (p : Params) (t : BitVec 3) :
    legalFrameType p t = true ↔ t ∈ [p.ftData, p.ftCfg, p.ftCmd] := by
  simp [legalFrameType, or_assoc]

/-- The plain parse by cases, in the order of R203. -/
theorem parsePlain_eq (s : State) (b a : Nat) :
    parsePlain s b a =
      if a < 14 then .error (.need 14)
      else if legalFrameType s.params (typeCode (s.byteAt (b + 1))) = false then
        .error (.raise (.protocol .unknownFrameType (s.byteAt (b + 1))))
      else if s.memRead (b + 2) 2 < 14 then .error (.raise (.protocol .badFrameLength 0))
      else if s.params.bufSize < b + s.memRead (b + 2) 2 then .error (.raise (.plain .lengthOverflow))
      else if a < s.memRead (b + 2) 2 then .error (.need (s.memRead (b + 2) 2))
      else if s.timebase.toNat < 1 ∨ 16777216 < s.timebase.toNat then .error (.raise (.plain .badArgument))
      else .ok (writePlainHeader s b (s.memRead (b + 2) 2)) := by
  unfold parsePlain
  dsimp only
  by_cases h1 : a < 14
  · rw [needIf_pos (show a < Config.plainHdrLen from h1), if_pos h1]
    rfl
  rw [needIf_neg (show ¬ a < Config.plainHdrLen from h1), if_neg h1, Except.ok_bind']
  by_cases h2 : legalFrameType s.params (typeCode (s.byteAt (b + 1))) = false
  · rw [raiseIf_pos h2, if_pos h2]
    rfl
  rw [raiseIf_neg h2, if_neg h2, Except.ok_bind']
  by_cases h3 : s.memRead (b + 2) 2 < 14
  · rw [raiseIf_pos (show _ < Config.plainHdrLen from h3), if_pos h3]
    rfl
  rw [raiseIf_neg (show ¬ _ < Config.plainHdrLen from h3), if_neg h3, Except.ok_bind']
  by_cases h4 : s.params.bufSize < b + s.memRead (b + 2) 2
  · rw [raiseIf_pos (Nat.not_le.2 h4), if_pos h4]
    rfl
  rw [raiseIf_neg (not_not.2 (Nat.not_lt.1 h4)), if_neg h4, Except.ok_bind']
  by_cases h5 : a < s.memRead (b + 2) 2
  · rw [needIf_pos h5, if_pos h5]
    rfl
  rw [needIf_neg h5, if_neg h5, Except.ok_bind']
  by_cases h6 : s.timebase.toNat < 1 ∨ 16777216 < s.timebase.toNat
  · rw [checkTimebase_error h6, if_pos h6]
    rfl
  rw [checkTimebase_ok (by omega), if_neg h6]
  rfl

/-- The registers a plain header parse leaves, by the record of claims. -/
theorem writePlainHeader_begin (s : State) (flen : Nat) :
    (writePlainHeader s.begin s.src.toNat flen).setRes resOk = s.withPlainHeader flen := by
  unfold writePlainHeader
  rw [State.begin_memRead, State.begin_byteAt]
  simp only [State.setRes, State.setHdrLenValid, State.setTimestamp, State.withPlainHeader, State.hdrLenValid,
    State.sigFail, statusOf_hdrLenValid, statusOf_sigFail, State.begin, State.setSigFail, fromWire_eq]
  congr 1
  refine BitVec.eq_of_toNat_eq ?_
  simp

/-- The plain header as its bytes: sync, type and version, frame length, id code, seconds, quality, fraction
(R200 to R202). -/
theorem plainImage_eq (p : Params) (t : BitVec 3) (v : BitVec 4) (fl id : BitVec 16) (soc : Nat) {frac : Nat} (q : Byte)
    (h : frac < 2 ^ 24) :
    plainImage p t v fl id soc frac q = [p.syncByte, 0#1 ++ t ++ v] ++ beBytes 2 fl.toNat ++ beBytes 2 id.toNat ++
      beBytes 4 soc ++ q :: beBytes 3 frac := by
  have h4 : beBytes 4 (q.toNat * 2 ^ 24 + frac) = q :: beBytes 3 frac := by
    simp only [beBytes, Nat.shiftRight_eq_div_pow]
    have := q.isLt
    simp
    refine ⟨?_, ?_, ?_, ?_⟩ <;> apply BitVec.eq_of_toNat_eq <;> simp <;> omega
  simp only [plainImage, h4]

/-- The word H_FRACSEC from its parts: the quality byte above the 24 fraction bits (R206). -/
theorem fracSec_eq (q : Byte) {frac : Nat} (h : frac < 2 ^ 24) :
    BitVec.ofNat 32 (q.toNat * 2 ^ 24 + frac) = q ++ (BitVec.ofNat 32 frac).extractLsb' 0 24 := by
  apply BitVec.eq_of_toNat_eq
  rw [BitVec.toNat_append, ← Nat.shiftLeft_add_eq_or_of_lt (by simp; omega), Nat.shiftLeft_eq]
  have := q.isLt
  simp
  omega

/-! ## The session frame -/

theorem checkSecAlg_eq_ok_iff {p : Params} {code : Byte} {u : Unit} :
    checkSecAlg p code = .ok u ↔ code ∈ p.secCodes := by
  rw [checkSecAlg, raiseIf_eq_ok_iff, not_not]

theorem readField_eq (s : State) (b pe o n : Nat) :
    readField s b pe o n =
      if pe < o + n then .error (.raise (.protocol .truncated 0)) else .ok (s.memRead (b + o) n) := by
  unfold readField
  by_cases h : pe < o + n
  · rw [raiseIf_pos h, if_pos h]
    rfl
  · rw [raiseIf_neg h, if_neg h]
    rfl

theorem readField_eq_ok_iff {s : State} {b pe o n v : Nat} :
    readField s b pe o n = .ok v ↔ o + n ≤ pe ∧ v = s.memRead (b + o) n := by
  rw [readField_eq]
  split
  · simp
    omega
  · simp [eq_comm]
    omega

/-- The ASDU prefix by cases: its first failing check, or what it reads (R209). -/
theorem parseAsduPrefix_eq (s : State) (b pe : Nat) :
    parseAsduPrefix s b pe = match s.asduPrefixError? b (b + pe) with
      | some e => .error (.raise e)
      | none => .ok ((s.byteAt (s.countValueAt b)).toNat, s.bodyAt b - b) := by
  have hz : (s.byteAt (s.countValueAt b)).toNat = 0 ↔ s.byteAt (s.countValueAt b) = 0 :=
    ⟨fun h => BitVec.eq_of_toNat_eq h, fun h => by rw [h]; rfl⟩
  have hs : b + 38 + 1 = b + 39 := rfl
  have ec : b + 39 + s.headerSize (b + 39) = s.countAt b := rfl
  have ev : s.countAt b + 1 + s.headerSize (s.countAt b + 1) = s.countValueAt b := rfl
  have eq : s.countValueAt b + s.declaredLen (s.countAt b + 1) = s.seqAt b := rfl
  have eb : s.seqAt b + 1 + s.headerSize (s.seqAt b + 1) = s.bodyAt b := rfl
  unfold parseAsduPrefix State.asduPrefixError?
  dsimp only
  by_cases h1 : b + pe < b + 39
  · simp [validateTag_eq, h1, hs]
  by_cases h2 : s.byteAt (b + 38) ≠ s.params.tagSvPdu
  · simp [validateTag_eq, h1, h2, hs]
  by_cases h3 : b + pe < s.countAt b
  · have : ¬ s.countAt b ≤ b + pe := Nat.not_le.2 h3
    have h3' : b + pe < s.countAt b + 1 := by omega
    simp [validateTag_eq, h1, h2, hs, ec, h3', this]
  have h3' : s.countAt b ≤ b + pe := Nat.not_lt.1 h3
  rw [show validateTag s (b + 38) (b + pe) s.params.tagSvPdu (.protocol .truncated 0) =
    .ok ⟨s.declaredLen (b + 39), s.countAt b⟩ by simp [validateTag_eq, h1, h2, hs, ec, h3'], Except.ok_bind',
    parseScalar_eq]
  dsimp only
  by_cases h4 : b + pe < s.countAt b + 1
  · simp [validateTag_eq, h1, h2, h4, Except.bind]
  by_cases h5 : s.byteAt (s.countAt b) ≠ s.params.tagAsduCount
  · simp [validateTag_eq, h1, h2, h4, h5, Except.bind]
  by_cases h6 : b + pe < s.countValueAt b
  · have : ¬ s.countValueAt b ≤ b + pe := Nat.not_le.2 h6
    simp [validateTag_eq, h1, h2, h4, h5, h6, ev, this, Except.bind]
  rw [show validateTag s (s.countAt b) (b + pe) s.params.tagAsduCount (.protocol .truncated 0) =
    .ok ⟨s.declaredLen (s.countAt b + 1), s.countValueAt b⟩ by
      simp [validateTag_eq, h4, h5, ev, Nat.not_lt.1 h6]]
  simp only [Except.bind, eq, State.memRead_one, h1, h2, h4, h5, h6, if_false]
  by_cases h7 : s.declaredLen (s.countAt b + 1) = 0
  · simp [h7]
  have h7' : ¬ s.declaredLen (s.countAt b + 1) < 1 := by omega
  by_cases h8 : b + pe < s.seqAt b
  · simp [h7, h7', h8]
  simp only [h7, h7', h8, if_false, Except.ok_bind']
  by_cases h9 : s.byteAt (s.countValueAt b) = 0
  · rw [raiseIf_pos (hz.2 h9), if_pos h9]
    rfl
  rw [raiseIf_neg (mt hz.1 h9), if_neg h9, Except.ok_bind', validateTag_eq, eb]
  by_cases h10 : b + pe < s.seqAt b + 1
  · simp [h10]
  by_cases h11 : s.byteAt (s.seqAt b) ≠ s.params.tagSeqAsdu
  · simp [h10, h11]
  by_cases h12 : b + pe < s.bodyAt b
  · simp [h10, h11, h12, Nat.not_le.2 h12]
  · simp [h10, h11, h12, Nat.not_lt.1 h12]

/-- The ASDU prefix that a session parse accepts, and what it reads from it (R209). -/
theorem parseAsduPrefix_eq_ok_iff {s : State} {b pe : Nat} {r : Nat × Nat} :
    parseAsduPrefix s b pe = .ok r ↔
      s.byteAt (b + 38) = s.params.tagSvPdu ∧ s.byteAt (s.countAt b) = s.params.tagAsduCount ∧
      1 ≤ s.declaredLen (s.countAt b + 1) ∧ s.byteAt (s.countValueAt b) ≠ 0 ∧
      s.byteAt (s.seqAt b) = s.params.tagSeqAsdu ∧ s.bodyAt b ≤ b + pe ∧
      r = ((s.byteAt (s.countValueAt b)).toNat, s.bodyAt b - b) := by
  have hsv : b + 38 + 1 + s.headerSize (b + 38 + 1) = s.countAt b := rfl
  have hcv : s.countAt b + 1 + s.headerSize (s.countAt b + 1) = s.countValueAt b := rfl
  have hsq : s.countValueAt b + s.declaredLen (s.countAt b + 1) = s.seqAt b := rfl
  have hbd : s.seqAt b + 1 + s.headerSize (s.seqAt b + 1) = s.bodyAt b := rfl
  have hz : (s.byteAt (s.countValueAt b)).toNat = 0 ↔ s.byteAt (s.countValueAt b) = 0 := by
    constructor
    · intro h
      exact BitVec.eq_of_toNat_eq h
    · intro h
      rw [h]
      rfl
  unfold parseAsduPrefix
  simp only [Except.bind_eq_ok_iff, validateTag_eq_ok_iff, parseScalar_eq_ok_iff, raiseIf_eq_ok_iff]
  constructor
  · rintro ⟨_, ⟨h1, h2, rfl⟩, _, ⟨h3, h4, h5, rfl⟩, _, h6, _, ⟨h7, h8, rfl⟩, h9⟩
    dsimp only at *
    rw [hsv, hcv] at *
    rw [hsq, hbd] at *
    rw [State.memRead_one] at h6 h9
    refine ⟨h1, h3, h4, fun h => h6 (hz.2 h), h7, h8, (Except.ok.inj h9).symm⟩
  · rintro ⟨h1, h3, h4, h6, h7, h8, rfl⟩
    have hpos := s.headerSize_pos (s.seqAt b + 1)
    have hle2 : s.seqAt b ≤ b + pe := by omega
    have hle1 : s.countAt b ≤ b + pe := by omega
    refine ⟨_, ⟨h1, by rw [hsv]; omega, rfl⟩, _, ⟨h3, h4, by rw [hsv, hcv, hsq]; omega, rfl⟩, (), ?_, _,
      ⟨?_, ?_, rfl⟩, ?_⟩
    · dsimp only
      rw [hsv, hcv, State.memRead_one]
      exact fun h => h6 (hz.1 h)
    · dsimp only
      rw [hsv, hcv, hsq]
      exact h7
    · dsimp only
      rw [hsv, hcv, hsq, hbd]
      exact h8
    · dsimp only
      rw [hsv, hcv, hsq, hbd, State.memRead_one]
      rfl

/-- What a session parse reads from the frame at b of length total with algorithm alg (R209, R210). -/
def sessionHeaderAt (s : State) (b total : Nat) (sigFail : Bool) : SessionHeader where
  cltp := s.byteAt b
  spdu := s.memRead (b + 6) 4
  pkt := s.memRead (b + 10) 4
  ver := s.memRead (b + 14) 2
  keyTime0 := s.memRead (b + 16) 4
  keyTime1 := s.memRead (b + 20) 2
  sec := s.byteAt (b + 22)
  sig := s.byteAt (b + 23)
  keyId := s.memRead (b + 24) 4
  payLen := s.memRead (b + 28) 4
  sim := s.byteAt (b + 33)
  appId := s.memRead (b + 34) 2
  asduLen := s.memRead (b + 36) 2
  asduCount := (s.byteAt (s.countValueAt b)).toNat
  total := total
  hdrLen := s.bodyAt b - b
  sigFail := sigFail

/-- What R209 checks of the frame at b before it asks for the whole of it. -/
structure SessionPrefix (s : State) (b : Nat) (alg : SigAlg) (total : Nat) : Prop where
  sessionType : s.byteAt (b + 2) = 0xA2
  headerSize : s.byteAt (b + 3) = 0x18
  secLegal : s.byteAt (b + 22) ∈ s.params.secCodes
  sigLegal : sigAlgOf s.params (s.byteAt (b + 23)) = some alg
  length : total = (s.byteAt b).toNat + s.memRead (b + 6) 4 + 8 + alg.trailerLen
  lengthLow : total ≤ 65535
  lengthInBuf : b + total ≤ s.params.bufSize

/-- The session parse up to its second `need` (R209). -/
theorem parseSession_of_prefix {s : State} {b a total : Nat} {alg : SigAlg} (ha : 26 ≤ a)
    (h : SessionPrefix s b alg total) :
    parseSession s b a = (do
      needIf (a < total) total
      let pe := total - alg.trailerLen
      let keyId ← readField s b pe 24 4
      let payLen ← readField s b pe 28 4
      let sf ← sigCheck s b total alg
      let pt ← readField s b pe 32 1
      raiseIf (pt ≠ Config.payloadType.toNat) (.protocol .unsupportedPayloadType (BitVec.ofNat 8 pt))
      let sim ← readField s b pe 33 1
      let appId ← readField s b pe 34 2
      let asduLen ← readField s b pe 36 2
      let (cnt, hdrLen) ← parseAsduPrefix s b pe
      return {
        cltp := s.byteAt b, spdu := s.memRead (b + 6) 4, pkt := s.memRead (b + 10) 4, ver := s.memRead (b + 14) 2,
        keyTime0 := s.memRead (b + 16) 4, keyTime1 := s.memRead (b + 20) 2, sec := s.byteAt (b + 22),
        sig := s.byteAt (b + 23), keyId := keyId, payLen := payLen, sim := BitVec.ofNat 8 sim, appId := appId,
        asduLen := asduLen, asduCount := cnt, total := total, hdrLen := hdrLen, sigFail := sf }) := by
  have ht : sessionTotal (s.byteAt b) (s.memRead (b + 6) 4) alg = total := h.length.symm
  unfold parseSession
  rw [needIf_neg (show ¬ a < Config.sessionMin from Nat.not_lt.2 ha), Except.ok_bind']
  dsimp only
  rw [raiseIf_neg (not_not.2 (show _ = Config.sessionTypeSv from h.sessionType)), Except.ok_bind',
    raiseIf_neg (not_not.2 (show _ = Config.sessionHeaderSize from h.headerSize)), Except.ok_bind',
    (checkSecAlg_eq_ok_iff (u := ())).2 h.secLegal, Except.ok_bind', legalSigAlg_eq_ok_iff.2 h.sigLegal,
    Except.ok_bind', ht,
    raiseIf_neg (by
      have h1 := h.lengthLow
      have h2 := h.lengthInBuf
      simp only [InBuf]
      omega), Except.ok_bind']

/-- A session parse that answers, or defers past the header, found a legal session header (R209). -/
theorem parseSession_prefix {s : State} {b a : Nat} (hn : ∀ e, parseSession s b a ≠ .error (.raise e)) :
    a < 26 ∨ (26 ≤ a ∧ ∃ alg total, SessionPrefix s b alg total) := by
  by_cases ha : a < 26
  · exact .inl ha
  refine .inr ⟨Nat.not_lt.1 ha, ?_⟩
  unfold parseSession at hn
  rw [needIf_neg (show ¬ a < Config.sessionMin from ha), Except.ok_bind'] at hn
  dsimp only at hn
  by_cases h1 : s.byteAt (b + 2) = 0xA2
  · rw [raiseIf_neg (not_not.2 (show _ = Config.sessionTypeSv from h1)), Except.ok_bind'] at hn
    by_cases h2 : s.byteAt (b + 3) = 0x18
    · rw [raiseIf_neg (not_not.2 (show _ = Config.sessionHeaderSize from h2)), Except.ok_bind'] at hn
      by_cases h3 : s.byteAt (b + 22) ∈ s.params.secCodes
      · rw [(checkSecAlg_eq_ok_iff (u := ())).2 h3, Except.ok_bind'] at hn
        cases h4 : sigAlgOf s.params (s.byteAt (b + 23)) with
        | none =>
          rw [legalSigAlg_of_none h4] at hn
          exact absurd rfl (hn _)
        | some alg =>
          rw [legalSigAlg_eq_ok_iff.2 h4, Except.ok_bind'] at hn
          by_cases h5 : sessionTotal (s.byteAt b) (s.memRead (b + 6) 4) alg > 65535 ∨
              ¬ InBuf s b (sessionTotal (s.byteAt b) (s.memRead (b + 6) 4) alg)
          · rw [raiseIf_pos h5] at hn
            exact absurd rfl (hn _)
          · have h6 := not_or.1 h5
            exact ⟨alg, _, h1, h2, h3, h4, rfl, Nat.not_lt.1 h6.1, not_not.1 h6.2⟩
      · rw [checkSecAlg, raiseIf_pos h3] at hn
        exact absurd rfl (hn _)
    · rw [raiseIf_pos (show _ ≠ Config.sessionHeaderSize from h2)] at hn
      exact absurd rfl (hn _)
  · rw [raiseIf_pos (show _ ≠ Config.sessionTypeSv from h1)] at hn
    exact absurd rfl (hn _)

theorem parseSession_of_short {s : State} {b a : Nat} (h : a < 26) : parseSession s b a = .error (.need 26) := by
  unfold parseSession
  rw [needIf_pos (show a < Config.sessionMin from h)]
  rfl

/-- When a session parse defers: fewer than 26 bytes are present, or fewer than the whole frame (R209, R212). -/
theorem parseSession_eq_need_iff {s : State} {b a n : Nat} :
    parseSession s b a = .error (.need n) ↔
      (a < 26 ∧ n = 26) ∨ (26 ≤ a ∧ a < n ∧ ∃ alg, SessionPrefix s b alg n) := by
  constructor
  · intro h
    rcases parseSession_prefix (s := s) (b := b) (a := a) (fun e he => by rw [h] at he; cases he) with
      ha | ⟨ha, alg, total, hp⟩
    · rw [parseSession_of_short ha] at h
      cases h
      exact .inl ⟨ha, rfl⟩
    · refine .inr ⟨ha, ?_⟩
      rw [parseSession_of_prefix ha hp] at h
      by_cases ht : a < total
      · rw [needIf_pos ht] at h
        cases h
        exact ⟨ht, alg, hp⟩
      · rw [needIf_neg ht, Except.ok_bind'] at h
        exfalso
        revert h
        refine neverDefers_bind neverDefers_readField (fun _ => neverDefers_bind neverDefers_readField fun _ =>
          neverDefers_bind neverDefers_sigCheck fun _ => neverDefers_bind neverDefers_readField fun _ =>
          neverDefers_bind neverDefers_raiseIf fun _ => neverDefers_bind neverDefers_readField fun _ =>
          neverDefers_bind neverDefers_readField fun _ => neverDefers_bind neverDefers_readField fun _ =>
          neverDefers_bind neverDefers_parseAsduPrefix fun _ => neverDefers_pure) n
  · rintro (⟨ha, rfl⟩ | ⟨ha, ht, alg, hp⟩)
    · exact parseSession_of_short ha
    · rw [parseSession_of_prefix ha hp, needIf_pos ht]
      rfl

/-- The session frames that a parse accepts, and what it reads from them (R209). -/
theorem parseSession_eq_ok_iff {s : State} {b a : Nat} {h : SessionHeader} :
    parseSession s b a = .ok h ↔
      ∃ alg total sf, 26 ≤ a ∧ SessionPrefix s b alg total ∧ total ≤ a ∧ sigCheck s b total alg = .ok sf ∧
        s.byteAt (b + 32) = 0x82 ∧ parseAsduPrefix s b (total - alg.trailerLen) =
          .ok ((s.byteAt (s.countValueAt b)).toNat, s.bodyAt b - b) ∧
        h = sessionHeaderAt s b total sf := by
  have hpt : ∀ x : Byte, x.toNat ≠ Config.payloadType.toNat ↔ x ≠ 0x82 := by decide
  constructor
  · intro hk
    rcases parseSession_prefix (s := s) (b := b) (a := a) (fun e he => by rw [hk] at he; cases he) with
      ha | ⟨ha, alg, total, hp⟩
    · rw [parseSession_of_short ha] at hk
      cases hk
    · rw [parseSession_of_prefix ha hp] at hk
      simp only [Except.bind_eq_ok_iff, needIf_eq_ok_iff, raiseIf_eq_ok_iff, readField_eq_ok_iff] at hk
      obtain ⟨_, ht, _, ⟨-, rfl⟩, _, ⟨-, rfl⟩, sf, hsf, _, ⟨-, rfl⟩, _, h1, _, ⟨-, rfl⟩, _, ⟨-, rfl⟩, _, ⟨-, rfl⟩,
        r, hr, hh⟩ := hk
      rw [State.memRead_one, hpt, not_not] at h1
      have hr' := parseAsduPrefix_eq_ok_iff.1 hr
      have hre := hr'.2.2.2.2.2.2
      subst hre
      refine ⟨alg, total, sf, ha, hp, Nat.not_lt.1 ht, hsf, h1, hr, ?_⟩
      have := (Except.ok.inj hh).symm
      rw [this]
      simp [sessionHeaderAt]
  · rintro ⟨alg, total, sf, ha, hp, ht, hsf, h1, hr, rfl⟩
    rw [parseSession_of_prefix ha hp]
    obtain ⟨-, -, -, -, -, hb, -⟩ := parseAsduPrefix_eq_ok_iff.1 hr
    have h2 : b + 39 ≤ s.bodyAt b := by
      simp only [State.bodyAt, State.seqAt, State.countValueAt, State.countAt]
      omega
    simp only [Except.bind_eq_ok_iff, needIf_eq_ok_iff, raiseIf_eq_ok_iff, readField_eq_ok_iff]
    refine ⟨(), Nat.not_lt.2 ht, _, ⟨by omega, rfl⟩, _, ⟨by omega, rfl⟩, sf, hsf, _, ⟨by omega, rfl⟩, (), ?_, _,
      ⟨by omega, rfl⟩, _, ⟨by omega, rfl⟩, _, ⟨by omega, rfl⟩, _, hr, ?_⟩
    · rw [State.memRead_one, hpt, not_not]
      exact h1
    · simp [sessionHeaderAt]

/-- The offset of the body of a parsed session frame lies past its fixed 38 bytes. -/
theorem State.bodyAt_ge (s : State) (b : Nat) : b + 45 ≤ s.bodyAt b ∨ s.declaredLen (s.countAt b + 1) = 0 := by
  have h1 := s.headerSize_pos (b + 39)
  have h2 := s.headerSize_pos (s.countAt b + 1)
  have h3 := s.headerSize_pos (s.seqAt b + 1)
  simp only [State.bodyAt, State.seqAt, State.countValueAt] at *
  simp only [State.countAt] at *
  omega

/-! ## The session generator -/

/-- The conditions under which GenSession answers, for a body of l bytes (R216). -/
structure GenOperands (s : State) (alg : SigAlg) (total : Nat) : Prop where
  secLegal : s.sSecAlg ∈ s.params.secCodes
  sigLegal : sigAlgOf s.params s.sSigAlg = some alg
  countPos : s.sAsduCount ≠ 0
  bodyLow : s.sBodyLen.toNat ≤ 65535
  innerLow : svInner s.params s.sBodyLen.toNat ≤ 65535
  length : total = genHdrLen s.params s.sBodyLen.toNat + s.sBodyLen.toNat + alg.trailerLen
  lengthLow : total ≤ 65535
  lengthHigh : s.sCltpLen.toNat + 8 + alg.trailerLen ≤ total

/-- What GenSession answers, and exactly when (R216). -/
theorem genSession_eq_ok_iff {s : State} {g : SessionImage} :
    genSession s = .ok g ↔ ∃ alg total, GenOperands s alg total ∧
      g = ⟨sessionImage s (total - s.sCltpLen.toNat - 8 - alg.trailerLen) (total - alg.trailerLen - 32)
            (total - alg.trailerLen - 38), genHdrLen s.params s.sBodyLen.toNat, total,
          total - s.sCltpLen.toNat - 8 - alg.trailerLen, total - alg.trailerLen - 32, total - alg.trailerLen - 38⟩ := by
  unfold genSession
  dsimp only
  simp only [Except.bind_eq_ok_iff, checkSecAlg_eq_ok_iff, legalSigAlg_eq_ok_iff, raiseIf_eq_ok_iff,
    Except.pure_eq_ok, Except.ok.injEq]
  constructor
  · rintro ⟨_, h1, alg, h2, _, h3, _, h4, _, h5, _, h6, _, h7, rfl⟩
    exact ⟨alg, _, ⟨h1, h2, h3, Nat.not_lt.1 h4, Nat.not_lt.1 h5, rfl, Nat.not_lt.1 h6, Nat.not_lt.1 h7⟩, rfl⟩
  · rintro ⟨alg, total, ⟨h1, h2, h3, h4, h5, rfl, h6, h7⟩, rfl⟩
    exact ⟨(), h1, alg, h2, (), h3, (), Nat.not_lt.2 h4, (), Nat.not_lt.2 h5, (), Nat.not_lt.2 h6, (),
      Nat.not_lt.2 h7, rfl⟩

theorem length_seqHeader_le (p : Params) (l : Nat) : 2 ≤ (seqHeader p l).length ∧ (seqHeader p l).length ≤ 4 := by
  simp only [seqHeader, List.length_cons, length_lenHdrBytes]
  split <;> [skip; split] <;> omega

theorem length_svHeader_le (p : Params) (l : Nat) : 2 ≤ (svHeader p l).length ∧ (svHeader p l).length ≤ 4 := by
  simp only [svHeader, List.length_cons, length_lenHdrBytes]
  split <;> [skip; split] <;> omega

/-- The generated header has exactly the length that GenSession reports (R216). -/
@[simp] theorem length_sessionImage (s : State) (spdu payLen asduLen : Nat) :
    (sessionImage s spdu payLen asduLen).length = genHdrLen s.params s.sBodyLen.toNat := by
  simp [sessionImage, genHdrLen, countTlv]
  omega

end Sys2Proof.Machine
end

