-- ==== Sys2Proof/Laws/Commands.lean ====
section
/-! SUPPORT. For each command's rule: what a completed rule leaves unchanged, the errors it can raise, and whether it
defers. The frames are record updates: what they do not name is unchanged. -/

namespace Sys2Proof.Machine

/-! ## Frames: what a completed rule may have written -/

theorem plenBody_frame {s t : State} (h : plenBody s = .ok t) : t = { s with rlen := t.rlen, cur := t.cur } := by
  obtain ⟨_, -, h⟩ := Except.bind_eq_ok_iff.1 h
  cases h
  rfl

theorem emitAtCur_frame {s t : State} {img : List Byte} (h : emitAtCur s img = .ok t) :
    s.cur.toNat + img.length ≤ s.winEnd ∧ t = { s.writeBytes s.cur.toNat img with cur := t.cur } := by
  rw [emitAtCur_eq] at h
  split at h
  · cases h
    exact ⟨‹_›, rfl⟩
  · cases h

theorem elenBody_frame {s t : State} (h : elenBody s = .ok t) :
    ∃ img, s.cur.toNat + img.length ≤ s.winEnd ∧ t = { s.writeBytes s.cur.toNat img with cur := t.cur } := by
  obtain ⟨_, -, h⟩ := Except.bind_eq_ok_iff.1 h
  exact ⟨_, emitAtCur_frame h⟩

theorem vtagBody_frame {s t : State} {tag : Byte} (h : vtagBody tag s = .ok t) :
    t = { s with rlen := t.rlen, raddr := t.raddr, cur := t.cur } := by
  obtain ⟨_, -, h⟩ := Except.bind_eq_ok_iff.1 h
  cases h
  rfl

theorem parseScalarCommand_frame {s t : State} {w : Nat} {tag : Byte} (h : parseScalarCommand w tag s = .ok t) :
    t = { s with valLo := t.valLo, valHi := t.valHi, rlen := t.rlen, raddr := t.raddr, cur := t.cur } := by
  obtain ⟨_, -, h⟩ := Except.bind_eq_ok_iff.1 h
  cases h
  rfl

theorem pstrBody_frame {s t : State} {tag : Byte} (h : pstrBody tag s = .ok t) :
    t = { s with rlen := t.rlen, raddr := t.raddr, cur := t.cur } := by
  obtain ⟨_, -, h⟩ := Except.bind_eq_ok_iff.1 h
  cases h
  rfl

theorem encodeScalarCommand_frame {s t : State} {w : Nat} {tag : Byte} (h : encodeScalarCommand w tag s = .ok t) :
    ∃ img, s.cur.toNat + img.length ≤ s.winEnd ∧ t = { s.writeBytes s.cur.toNat img with cur := t.cur } :=
  ⟨_, emitAtCur_frame h⟩

theorem estrBody_frame {s t : State} {tag : Byte} (h : estrBody tag s = .ok t) :
    ∃ img, s.cur.toNat + img.length ≤ s.winEnd ∧ t = { s.writeBytes s.cur.toNat img with cur := t.cur } := by
  obtain ⟨_, -, h⟩ := Except.bind_eq_ok_iff.1 h
  obtain ⟨_, -, h⟩ := Except.bind_eq_ok_iff.1 h
  exact ⟨_, emitAtCur_frame h⟩

theorem crcCalcBody_frame {s t : State} (h : crcCalcBody s = .ok t) : t = { s with crc := t.crc } := by
  obtain ⟨_, -, h⟩ := Except.bind_eq_ok_iff.1 h
  cases h
  rfl

theorem crcGenBody_frame {s t : State} (h : crcGenBody s = .ok t) :
    ∃ a img, a + img.length ≤ s.params.bufSize ∧ t = { s.writeBytes a img with crc := t.crc } := by
  obtain ⟨_, h1, h⟩ := Except.bind_eq_ok_iff.1 h
  have h2 := not_not.1 (raiseIf_eq_ok_iff.1 h1)
  cases h
  refine ⟨_, _, ?_, rfl⟩
  rw [length_beBytes]
  simp only [InBuf] at h2
  omega

theorem crcCheckBody_frame {s t : State} (h : crcCheckBody s = .ok t) : t = { s with crc := t.crc } := by
  obtain ⟨_, -, h⟩ := Except.bind_eq_ok_iff.1 h
  obtain ⟨_, -, h⟩ := Except.bind_eq_ok_iff.1 h
  cases h
  rfl

theorem sigGenBody_frame {s t : State} (h : sigGenBody s = .ok t) :
    ∃ a img, a + img.length ≤ s.params.bufSize ∧ t = s.writeBytes a img := by
  obtain ⟨alg, ho, h⟩ := Except.bind_eq_ok_iff.1 h
  obtain ⟨-, hl, hb⟩ := sigOperands_eq_ok_iff.1 ho
  split at h
  · cases h
    exact ⟨0, [], Nat.zero_le _, rfl⟩
  · rename_i hne
    obtain ⟨_, -, h⟩ := Except.bind_eq_ok_iff.1 h
    cases h
    refine ⟨_, _, ?_, rfl⟩
    have := SigAlg.trailerLen_pos hne
    rw [List.length_cons, length_frameMac]
    omega

theorem sigVerifyBody_frame {s t : State} (h : sigVerifyBody s = .ok t) : ∃ f, t = s.setSigFail f := by
  obtain ⟨_, -, h⟩ := Except.bind_eq_ok_iff.1 h
  obtain ⟨f, -, h⟩ := Except.bind_eq_ok_iff.1 h
  cases h
  exact ⟨f, rfl⟩

theorem toWireBody_frame {s t : State} (h : toWireBody s = .ok t) :
    t = { s with wSoc := t.wSoc, wFrac := t.wFrac } := by
  obtain ⟨_, -, h⟩ := Except.bind_eq_ok_iff.1 h
  obtain ⟨_, -, h⟩ := Except.bind_eq_ok_iff.1 h
  cases h
  rfl

theorem toWireHpBody_frame {s t : State} (h : toWireHpBody s = .ok t) :
    t = { s with wSoc := t.wSoc, wFrac := t.wFrac } := by
  obtain ⟨_, -, h⟩ := Except.bind_eq_ok_iff.1 h
  obtain ⟨_, -, h⟩ := Except.bind_eq_ok_iff.1 h
  cases h
  rfl

theorem fromWireBody_frame {s t : State} (h : fromWireBody s = .ok t) :
    t = { s with tSec := t.tSec, tNs := t.tNs } := by
  obtain ⟨_, -, h⟩ := Except.bind_eq_ok_iff.1 h
  cases h
  rfl

theorem packRtBody_frame {s t : State} (h : packRtBody s = .ok t) :
    t = { s with valHi := t.valHi, valLo := t.valLo } := by
  cases h
  rfl

theorem unpackRtBody_frame {s t : State} (h : unpackRtBody s = .ok t) :
    t = { s with wSoc := t.wSoc, wFrac := t.wFrac, tq := t.tq } := by
  cases h
  rfl

theorem hdrDetectBody_frame {s t : State} (h : hdrDetectBody s = .ok t) : t = { s with hFormat := t.hFormat } := by
  obtain ⟨_, -, h⟩ := Except.bind_eq_ok_iff.1 h
  obtain ⟨_, -, h⟩ := Except.bind_eq_ok_iff.1 h
  cases h
  rfl

/-- What a plain header parse may write (R203). -/
theorem writePlainHeader_frame (s : State) (b flen : Nat) :
    ∃ fmt ty ver fl idc soc fs q sec ns, writePlainHeader s b flen = { s.setHdrLenValid true with
      hFormat := fmt, hType := ty, hVersion := ver, hFrameLen := fl, hIdCode := idc, hSoc := soc, hFracSec := fs
      tq := q, tSec := sec, tNs := ns, hHdrLen := 14 } := by
  have h : ∀ u : Timestamp, (s.setTimestamp u).setHdrLenValid true =
      { s.setHdrLenValid true with tSec := BitVec.ofNat 32 u.sec, tNs := BitVec.ofNat 32 u.ns } := fun _ => rfl
  unfold writePlainHeader
  dsimp only
  rw [h]
  exact ⟨_, _, _, _, _, _, _, _, _, _, rfl⟩

theorem parsePlain_eq_ok {s t : State} {b a : Nat} (h : parsePlain s b a = .ok t) :
    t = writePlainHeader s b (s.memRead (b + 2) 2) := by
  rw [parsePlain_eq] at h
  repeat' split at h
  all_goals first | exact (Except.ok.inj h).symm | cases h

theorem hdrParseBody_cases {s t : State} (h : hdrParseBody s = .ok t) :
    (t = writePlainHeader s s.src.toNat (s.memRead (s.src.toNat + 2) 2)) ∨
    (∃ g, parseSession s s.src.toNat s.len.toNat = .ok g ∧ t = writeSessionHeader s g) := by
  obtain ⟨_, -, h⟩ := Except.bind_eq_ok_iff.1 h
  obtain ⟨fmt, -, h⟩ := Except.bind_eq_ok_iff.1 h
  cases fmt with
  | plain => exact .inl (parsePlain_eq_ok h)
  | session =>
    obtain ⟨g, hg, h⟩ := Except.bind_eq_ok_iff.1 h
    exact .inr ⟨g, hg, (Except.ok.inj h).symm⟩

theorem hdrGenPlainBody_frame {s t : State} (h : hdrGenPlainBody s = .ok t) :
    ∃ img, s.src.toNat + img.length ≤ s.params.bufSize ∧ img.length = 14 ∧
      t = { (s.writeBytes s.src.toNat img).setHdrLenValid true with
        hSoc := t.hSoc, hFracSec := t.hFracSec, hHdrLen := 14, hFormat := 1 } := by
  obtain ⟨_, h1, h⟩ := Except.bind_eq_ok_iff.1 h
  have h2 := not_not.1 (raiseIf_eq_ok_iff.1 h1)
  obtain ⟨_, -, h⟩ := Except.bind_eq_ok_iff.1 h
  obtain ⟨_, -, h⟩ := Except.bind_eq_ok_iff.1 h
  obtain ⟨_, -, h⟩ := Except.bind_eq_ok_iff.1 h
  obtain ⟨_, -, h⟩ := Except.bind_eq_ok_iff.1 h
  cases h
  refine ⟨_, ?_, ?_, rfl⟩
  · simpa [plainImage, InBuf, Config.plainHdrLen] using h2
  · simp [plainImage]

theorem hdrGenSessionBody_frame {s t : State} (h : hdrGenSessionBody s = .ok t) :
    ∃ img alg total, GenOperands s alg total ∧ img.length = genHdrLen s.params s.sBodyLen.toNat ∧
      s.src.toNat + img.length ≤ s.params.bufSize ∧
      t = { (s.writeBytes s.src.toNat img).setHdrLenValid true with
        sSpduLen := t.sSpduLen, sVersion := t.sVersion, sPayLen := t.sPayLen, sAsduLen := t.sAsduLen,
        hFrameLen := t.hFrameLen, hHdrLen := BitVec.ofNat 16 (genHdrLen s.params s.sBodyLen.toNat),
        hFormat := t.hFormat,
        hType := t.hType } := by
  obtain ⟨g, hg, h⟩ := Except.bind_eq_ok_iff.1 h
  obtain ⟨alg, total, ho, rfl⟩ := genSession_eq_ok_iff.1 hg
  obtain ⟨_, h1, h⟩ := Except.bind_eq_ok_iff.1 h
  have h2 := not_not.1 (raiseIf_eq_ok_iff.1 h1)
  cases h
  refine ⟨_, alg, total, ho, length_sessionImage .., ?_, rfl⟩
  rw [length_sessionImage]
  have := ho.length
  simp only [InBuf] at h2
  omega

theorem hdrCmdCheckBody_frame {s t : State} (h : hdrCmdCheckBody s = .ok t) :
    t = { writePlainHeader s s.src.toNat (s.memRead (s.src.toNat + 2) 2) with crc := t.crc } := by
  obtain ⟨_, -, h⟩ := Except.bind_eq_ok_iff.1 h
  obtain ⟨_, -, h⟩ := Except.bind_eq_ok_iff.1 h
  obtain ⟨_, -, h⟩ := Except.bind_eq_ok_iff.1 h
  obtain ⟨_, -, h⟩ := Except.bind_eq_ok_iff.1 h
  obtain ⟨_, -, h⟩ := Except.bind_eq_ok_iff.1 h
  obtain ⟨_, -, h⟩ := Except.bind_eq_ok_iff.1 h
  obtain ⟨_, -, h⟩ := Except.bind_eq_ok_iff.1 h
  obtain ⟨_, -, h⟩ := Except.bind_eq_ok_iff.1 h
  cases h
  rfl

/-! ## Errors -/

section
variable {P : CmdError → Prop}

theorem raises_parsePlain {s : State} {b a : Nat} (h1 : ∀ x, P (.protocol .unknownFrameType x))
    (h2 : P (.protocol .badFrameLength 0)) (h3 : P (.plain .lengthOverflow)) (h4 : P (.plain .badArgument)) :
    Raises (parsePlain s b a) P :=
  raises_bind raises_needIf fun _ => raises_bind (raises_raiseIf (h1 _)) fun _ =>
    raises_bind (raises_raiseIf h2) fun _ => raises_bind (raises_raiseIf h3) fun _ =>
    raises_bind raises_needIf fun _ => raises_bind (raises_checkTimebase h4) fun _ => raises_pure

theorem raises_parseAsduPrefix {s : State} {b pe : Nat} (h1 : P (.protocol .truncated 0))
    (h2 : ∀ x, P (.protocol .unexpectedTag x)) (h3 : ∀ x, P (.protocol .lengthTooShort x))
    (h4 : P (.protocol .emptyAsduSequence 0)) : Raises (parseAsduPrefix s b pe) P :=
  raises_bind (raises_validateTag h1 h2) fun _ => raises_bind (raises_parseScalar h1 h2 h3) fun _ =>
    raises_bind (raises_raiseIf h4) fun _ => raises_bind (raises_validateTag h1 h2) fun _ => raises_pure

theorem raises_parseSession {s : State} {b a : Nat} (h1 : ∀ x, P (.protocol .unsupportedSessionType x))
    (h2 : ∀ x, P (.protocol .invalidSessionHeader x)) (h3 : ∀ x, P (.protocol .unsupportedSecurityAlgorithm x))
    (h4 : ∀ x, P (.protocol .unsupportedSignatureAlgorithm x)) (h5 : P (.plain .lengthOverflow))
    (h6 : P (.protocol .truncated 0)) (h7 : ∀ x, P ⟨.missingSignatureTag, .none, x⟩) (h8 : P (.plain .badArgument))
    (h9 : P (.plain .signatureMismatch)) (h10 : ∀ x, P (.protocol .unsupportedPayloadType x))
    (h11 : ∀ x, P (.protocol .unexpectedTag x)) (h12 : ∀ x, P (.protocol .lengthTooShort x))
    (h13 : P (.protocol .emptyAsduSequence 0)) : Raises (parseSession s b a) P :=
  raises_bind raises_needIf fun _ => raises_bind (raises_raiseIf (h1 _)) fun _ =>
    raises_bind (raises_raiseIf (h2 _)) fun _ => raises_bind (raises_raiseIf (h3 _)) fun _ =>
    raises_bind (raises_legalSigAlg (h4 _)) fun _ => raises_bind (raises_raiseIf h5) fun _ =>
    raises_bind raises_needIf fun _ => raises_bind (raises_readField h6) fun _ =>
    raises_bind (raises_readField h6) fun _ => raises_bind (raises_sigCheck h7 h8 h9) fun _ =>
    raises_bind (raises_readField h6) fun _ => raises_bind (raises_raiseIf (h10 _)) fun _ =>
    raises_bind (raises_readField h6) fun _ => raises_bind (raises_readField h6) fun _ =>
    raises_bind (raises_readField h6) fun _ => raises_bind (raises_parseAsduPrefix h6 h11 h12 h13) fun _ => raises_pure

theorem raises_genSession {s : State} (h1 : ∀ x, P (.protocol .unsupportedSecurityAlgorithm x))
    (h2 : ∀ x, P (.protocol .unsupportedSignatureAlgorithm x)) (h3 : P (.protocol .emptyAsduSequence 0))
    (h4 : P (.plain .valueTooLarge)) (h5 : P (.plain .lengthOverflow)) (h6 : P (.plain .badArgument)) :
    Raises (genSession s) P :=
  raises_bind (raises_raiseIf (h1 _)) fun _ => raises_bind (raises_legalSigAlg (h2 _)) fun _ =>
    raises_bind (raises_raiseIf h3) fun _ => raises_bind (raises_raiseIf h4) fun _ =>
    raises_bind (raises_raiseIf h4) fun _ => raises_bind (raises_raiseIf h5) fun _ =>
    raises_bind (raises_raiseIf h6) fun _ => raises_pure

end

end Sys2Proof.Machine
end

