-- ==== Sys2Proof/Laws/Encoding.lean ====
section
/-! SUPPORT. The laws of the command word: splitting and joining are inverse, and what an opcode names. -/

namespace Sys2Proof

/-- The fields of a joined word are the ones it was joined from (R81). -/
theorem splitWord_joinWord (f : CmdFields) : splitWord (joinWord f) = f := by
  obtain ⟨r, t, o⟩ := f
  simp only [splitWord, joinWord, CmdFields.mk.injEq]
  refine ⟨?_, ?_, ?_⟩ <;> refine BitVec.eq_of_getLsbD_eq fun i hi => ?_ <;>
    simp only [BitVec.getLsbD_append, BitVec.getLsbD_extractLsb', hi, decide_true, Bool.true_and]
  · rw [if_neg (by omega), if_neg (by omega)]
    congr 1
    omega
  · rw [if_neg (by omega), if_pos (by omega)]
    congr 1
    omega
  · rw [if_pos (by omega)]
    congr 1
    omega

/-- A word is the join of its fields (R81). -/
theorem joinWord_splitWord (w : Word) : joinWord (splitWord w) = w := by
  simp only [splitWord, joinWord]
  refine BitVec.eq_of_getLsbD_eq fun i hi => ?_
  simp only [BitVec.getLsbD_append, BitVec.getLsbD_extractLsb']
  by_cases h1 : i < 8
  · simp [h1]
  · by_cases h2 : i - 8 < 8
    · simp only [h1, h2, if_false, if_true, decide_true, Bool.true_and]
      congr 1
      omega
    · have h3 : i - 8 - 8 < 16 := by omega
      simp only [h1, h2, h3, if_false, decide_true, Bool.true_and]
      congr 1
      omega

/-- What an opcode names: a command with that opcode, which either takes the TAG field as its operand or is
selected whatever TAG holds (R83, R84). -/
theorem commandOf_some {opc tag : Byte} {i : Instr} (h : commandOf opc tag = some i) :
    i.opcode = opc ∧ (i.tag? = some tag ∨ (i.tag? = none ∧ ∀ t, commandOf opc t = some i)) := by
  unfold commandOf at h
  have hb : opc = BitVec.ofNat 8 opc.toNat := by simp
  split at h <;> (try cases h) <;> rename_i heq <;> rw [heq] at hb <;> subst hb <;>
    first | exact ⟨rfl, .inl rfl⟩ | exact ⟨rfl, .inr ⟨rfl, fun _ => rfl⟩⟩

/-- Every command is the one its own opcode names (R84). -/
theorem commandOf_opcode (i : Instr) : commandOf i.opcode (i.tag?.getD 0) = some i := by
  cases i <;> rfl

/-- A word decodes to a command exactly when RSVD is 0 and the opcode names it (R82). -/
theorem decode_eq_ok_iff {w : Word} {i : Instr} :
    decode w = .ok i ↔ w.extractLsb' 16 16 = 0 ∧ commandOf (w.extractLsb' 0 8) (w.extractLsb' 8 8) = some i := by
  unfold decode
  dsimp only [splitWord]
  split
  · simp_all
  · rename_i h
    have h0 := not_not.1 h
    split <;> simp_all

/-- An opcode names a command exactly when it lies in one of the four blocks of the map (R84, R86). -/
theorem commandOf_isSome (opc tag : Byte) :
    (commandOf opc tag).isSome = true ↔
      (0x10 ≤ opc.toNat ∧ opc.toNat ≤ 0x24) ∨ (0x30 ≤ opc.toNat ∧ opc.toNat ≤ 0x34) ∨
        (0x40 ≤ opc.toNat ∧ opc.toNat ≤ 0x44) := by
  have ht : (commandOf opc tag).isSome = (commandOf opc 0).isSome := by
    unfold commandOf
    split <;> rfl
  rw [ht]
  clear ht
  revert opc
  decide

end Sys2Proof
end

