-- ==== Sys2Proof/Laws/Host.lean ====
section
/-! SUPPORT. The laws of the host's side: which CSR an offset names, what a host write keeps, and what the next event
makes the machine do. -/

namespace Sys2Proof.Machine

/-! ## CSR offsets -/

/-- Every CSR lies at its offset of the map (10_state.md R25). -/
theorem Csr.ofOffset_offset (c : Csr) : Csr.ofOffset c.offset = c := by
  cases c
  case key k => fin_cases k <;> rfl
  all_goals rfl

/-- The offsets from 0x100 on are reserved (10_state.md R59). -/
theorem Csr.ofOffset_reserved {off : Nat} (h : 0x100 ≤ off) : Csr.ofOffset off = .reserved := by
  unfold Csr.ofOffset
  have h4 : 64 ≤ off / 4 := by omega
  split
  all_goals first | omega | skip
  rw [dif_neg (by omega)]

/-- CMD is at offset 0 alone (10_state.md R26). -/
theorem Csr.ofOffset_eq_cmd_iff {off : Nat} (h : off % 4 = 0) : Csr.ofOffset off = .cmd ↔ off = 0 := by
  constructor
  · intro hc
    unfold Csr.ofOffset at hc
    split at hc
    all_goals first | omega | cases hc | skip
    split at hc <;> cases hc
  · rintro rfl
    rfl

/-! ## What a host write of a CSR keeps -/

/-- A write of a CSR keeps every field that only commands write, BUF, and the model's own fields. -/
theorem Csr.write_keeps (s : State) (v : Word) (c : Csr) :
    (Csr.write s v c).status = s.status ∧ (Csr.write s v c).err = s.err ∧ (Csr.write s v c).need = s.need ∧
    (Csr.write s v c).rlen = s.rlen ∧ (Csr.write s v c).raddr = s.raddr ∧ (Csr.write s v c).crc = s.crc ∧
    (Csr.write s v c).hHdrLen = s.hHdrLen ∧ (Csr.write s v c).buf = s.buf ∧
    (Csr.write s v c).pending = s.pending ∧ (Csr.write s v c).readData = s.readData ∧
    (Csr.write s v c).resets = s.resets ∧ (Csr.write s v c).params = s.params := by
  cases c <;> exact ⟨rfl, rfl, rfl, rfl, rfl, rfl, rfl, rfl, rfl, rfl, rfl, rfl⟩

/-! ## Events -/

theorem nextAction_nil {s : State} (h : s.pending = []) : nextAction s = .done s := by
  rw [nextAction, h]

theorem nextAction_cons {s : State} {ev : HostEvent} {rest : List HostEvent} (h : s.pending = ev :: rest) :
    nextAction s = hostEvent { s with pending := rest } ev := by
  rw [nextAction, h]

/-- An event that is not admitted has no step (20_memory.md R66). -/
theorem hostEvent_of_not_admitted {s : State} {ev : HostEvent} (h : ev.admitted s.params = false) :
    ∃ f, hostEvent s ev = .stuck f := by
  cases ev with
  | platformReset => cases h
  | read win off n => exact ⟨_, by rw [hostEvent, if_neg (by rw [h]; decide)]⟩
  | write win off n v => exact ⟨_, by rw [hostEvent, if_neg (by rw [h]; decide)]⟩

/-- An admitted event ends, with the rest of the queue and the parameters kept, or starts a command (R66). -/
theorem hostEvent_of_admitted {s : State} {ev : HostEvent} (h : ev.admitted s.params = true) :
    (∃ t, hostEvent s ev = .done t ∧ t.pending = s.pending ∧ t.params = s.params) ∨
    (∃ w, hostEvent s ev = .command w s) := by
  cases ev with
  | platformReset => exact .inl ⟨_, rfl, rfl, rfl⟩
  | read win off n =>
    rw [hostEvent, if_pos h]
    exact .inl ⟨_, rfl, rfl, rfl⟩
  | write win off n v =>
    rw [hostEvent, if_pos h]
    split
    · exact .inr ⟨v, rfl⟩
    · refine .inl ⟨_, rfl, ?_⟩
      cases win
      · obtain ⟨-, -, -, -, -, -, -, -, h1, -, -, h2⟩ := Csr.write_keeps s v (Csr.ofOffset off)
        exact ⟨h1, h2⟩
      · exact ⟨rfl, rfl⟩

/-- A write of CMD starts the command its word encodes (10_state.md R26). -/
theorem hostEvent_cmdWrite (s : State) (w : Word) : hostEvent s (cmdWrite w) = .command w s := rfl

/-- A command word always ends in a next state, a command's own or IllegalCommand's (30_encoding.md R82). -/
theorem runWord_next (w : Word) (s : State) : ∃ t, runWord w s = .next t := by
  unfold runWord
  split
  · rename_i i _
    cases i <;> exact ⟨_, rfl⟩
  · rw [illegalCommand_eq]
    exact ⟨_, rfl⟩

end Sys2Proof.Machine
end

