-- ==== Sys2Proof/Laws/Locality.lean ====
section
/-! SUPPORT. Which bytes of BUF each decoding helper reads: two states that agree on those bytes give the same answer
(43_header.md R191). -/

namespace Sys2Proof.Machine

theorem bind_congr_ok {α β : Type} {x x' : Except Stop α} {f f' : α → Except Stop β} (h : x' = x)
    (hf : ∀ a, x = .ok a → f' a = f a) : (x' >>= f') = (x >>= f) := by
  subst h
  cases hx : x' with
  | error e => rfl
  | ok a => exact hf a hx

/-- Two states of machines built alike agree on the n bytes of BUF from offset b. -/
structure SameBytes (s s' : State) (b n : Nat) : Prop where
  params : s'.params = s.params
  bytes : ∀ o < n, s'.byteAt (b + o) = s.byteAt (b + o)

section
variable {s s' : State} {b n : Nat}

theorem SameBytes.bytesAt_congr (h : SameBytes s s' b n) {c k : Nat} (hc : b ≤ c) (hk : c + k ≤ b + n) :
    s'.bytesAt c k = s.bytesAt c k := by
  refine State.bytesAt_congr fun i hi => ?_
  have := h.bytes (c - b + i) (by omega)
  rwa [show b + (c - b + i) = c + i by omega] at this

theorem SameBytes.byteAt_congr (h : SameBytes s s' b n) {c : Nat} (hc : b ≤ c) (hk : c < b + n) :
    s'.byteAt c = s.byteAt c := by
  have := h.bytes (c - b) (by omega)
  rwa [show b + (c - b) = c by omega] at this

theorem SameBytes.memRead_congr (h : SameBytes s s' b n) {c k : Nat} (hc : b ≤ c) (hk : c + k ≤ b + n) :
    s'.memRead c k = s.memRead c k := by
  rw [State.memRead, State.memRead, h.bytesAt_congr hc hk]

theorem SameBytes.parseTagLength_congr (h : SameBytes s s' b n) {c fin : Nat} {e : CmdError} (hc : b ≤ c)
    (hf : fin ≤ b + n) : parseTagLength s' c fin e = parseTagLength s c fin e := by
  rw [parseTagLength_eq, parseTagLength_eq]
  by_cases h1 : c + 1 ≤ fin
  · have hs : s'.headerSize c = s.headerSize c :=
      State.headerSize_congr (h.byteAt_congr hc (show c < b + n by omega))
    rw [hs]
    by_cases h2 : c + s.headerSize c ≤ fin
    · rw [if_pos h2, if_pos h2, State.declaredLen_congr (t := s) (s := s')
        (fun i hi => h.byteAt_congr (by omega) (by rw [hs] at hi; omega))]
    · rw [if_neg h2, if_neg h2]
  · have := s.headerSize_pos c
    have := s'.headerSize_pos c
    rw [if_neg (by omega), if_neg (by omega)]

theorem SameBytes.validateTag_congr (h : SameBytes s s' b n) {c fin : Nat} {tag : Byte} {e : CmdError} (hc : b ≤ c)
    (hf : fin ≤ b + n) : validateTag s' c fin tag e = validateTag s c fin tag e := by
  unfold validateTag
  refine bind_congr_ok rfl fun _ h1 => ?_
  have h1' := raiseIf_eq_ok_iff.1 h1
  rw [h.byteAt_congr hc (by omega), h.parseTagLength_congr (by omega) hf]

theorem SameBytes.parseScalar_congr (h : SameBytes s s' b n) {c fin w : Nat} {tag : Byte} {e : CmdError} (hc : b ≤ c)
    (hf : fin ≤ b + n) : parseScalar s' c fin tag w e = parseScalar s c fin tag w e := by
  unfold parseScalar
  refine bind_congr_ok (h.validateTag_congr hc hf) fun f hf1 => ?_
  obtain ⟨-, h2, rfl⟩ := validateTag_eq_ok_iff.1 hf1
  dsimp only
  refine bind_congr_ok rfl fun _ h3 => bind_congr_ok rfl fun _ h4 => ?_
  have h3' := raiseIf_eq_ok_iff.1 h3
  have h4' := raiseIf_eq_ok_iff.1 h4
  rw [h.memRead_congr (by omega) (by omega)]

theorem SameBytes.parseAsduPrefix_congr (h : SameBytes s s' b n) {pe : Nat} (hf : pe ≤ n) :
    parseAsduPrefix s' b pe = parseAsduPrefix s b pe := by
  unfold parseAsduPrefix
  dsimp only
  rw [h.params]
  refine bind_congr_ok (h.validateTag_congr (by omega) (by omega)) fun f hf1 => ?_
  obtain ⟨-, h2, rfl⟩ := validateTag_eq_ok_iff.1 hf1
  refine bind_congr_ok (h.parseScalar_congr (by dsimp only; omega) (by omega)) fun v hv => ?_
  obtain ⟨-, -, h3, rfl⟩ := parseScalar_eq_ok_iff.1 hv
  exact bind_congr_ok rfl fun _ _ =>
    bind_congr_ok (h.validateTag_congr (by dsimp only; omega) (by omega)) fun _ _ => rfl

theorem SameBytes.readField_congr (h : SameBytes s s' b n) {pe o k : Nat} (hp : pe ≤ n) :
    readField s' b pe o k = readField s b pe o k := by
  rw [readField_eq, readField_eq]
  split
  · rfl
  · rw [h.memRead_congr (by omega) (by omega)]

/-- The signature check reads the frame's own bytes and the key (R157). -/
theorem SameBytes.sigCheck_congr (h : SameBytes s s' b n) (h1 : s'.key = s.key) (h2 : s'.keyLen = s.keyLen)
    (h3 : s'.config = s.config) {total : Nat} {alg : SigAlg} (ht : total ≤ n) (hm : 8 + alg.trailerLen ≤ total) :
    sigCheck s' b total alg = sigCheck s b total alg := by
  by_cases hn : alg = .none
  · subst hn
    rfl
  · have := SigAlg.trailerLen_pos hn
    rw [sigCheck_eq _ _ _ hn, sigCheck_eq _ _ _ hn, h.byteAt_congr (by omega) (by omega), h2, h3]
    have : MacMatches s' b (total - alg.trailerLen) alg ↔ MacMatches s b (total - alg.trailerLen) alg := by
      unfold MacMatches
      rw [h.bytesAt_congr (by omega) (by omega), h.bytesAt_congr (by omega) (by omega),
        show s'.keyBytes = s.keyBytes by simp [State.keyBytes, State.keyByte, h1, h2]]
    simp only [this]

/-- The session parse reads the bytes that are present, and the key (R191, R209). -/
theorem SameBytes.parseSession_congr (h : SameBytes s s' b n) (h1 : s'.key = s.key) (h2 : s'.keyLen = s.keyLen)
    (h3 : s'.config = s.config) : parseSession s' b n = parseSession s b n := by
  unfold parseSession
  refine bind_congr_ok rfl fun _ h4 => ?_
  have h4' : 26 ≤ n := Nat.not_lt.1 (needIf_eq_ok_iff.1 h4)
  have hb : ∀ o, o < 26 → s'.byteAt (b + o) = s.byteAt (b + o) := fun o ho => h.bytes o (by omega)
  have hm : ∀ o k, o + k ≤ 26 → s'.memRead (b + o) k = s.memRead (b + o) k :=
    fun o k ho => h.memRead_congr (by omega) (by omega)
  dsimp only
  rw [show s'.byteAt b = s.byteAt b from hb 0 (by decide), hb 2 (by decide), hb 3 (by decide), hb 22 (by decide),
    hb 23 (by decide), hm 6 4 (by decide), hm 10 4 (by decide), hm 14 2 (by decide), hm 16 4 (by decide),
    hm 20 2 (by decide)]
  simp only [InBuf, h.params]
  refine bind_congr_ok rfl fun _ _ => bind_congr_ok rfl fun _ _ => bind_congr_ok rfl fun _ _ =>
    bind_congr_ok rfl fun alg _ => bind_congr_ok rfl fun _ _ => bind_congr_ok rfl fun _ h5 => ?_
  have h5' := Nat.not_lt.1 (needIf_eq_ok_iff.1 h5)
  have h8 : 8 + alg.trailerLen ≤ sessionTotal (s.byteAt b) (s.memRead (b + 6) 4) alg := by
    unfold sessionTotal
    omega
  exact bind_congr_ok (h.readField_congr (by omega)) fun _ _ =>
    bind_congr_ok (h.readField_congr (by omega)) fun _ _ =>
    bind_congr_ok (h.sigCheck_congr h1 h2 h3 h5' h8) fun _ _ =>
    bind_congr_ok (h.readField_congr (by omega)) fun _ _ => bind_congr_ok rfl fun _ _ =>
    bind_congr_ok (h.readField_congr (by omega)) fun _ _ =>
    bind_congr_ok (h.readField_congr (by omega)) fun _ _ =>
    bind_congr_ok (h.readField_congr (by omega)) fun _ _ =>
    bind_congr_ok (h.parseAsduPrefix_congr (by omega)) fun _ _ => rfl

end

end Sys2Proof.Machine
end

