-- ==== Sys2Proof/Laws/PerInstr.lean ====
section
/-! SUPPORT. The families of statements made once per instruction (LAWS.json). -/

namespace Sys2Proof.Laws

/-- Every command is well-formed, whatever its tag, and the word the assembler writes for it has RSVD 0, the opcode
of its row, and TAG 0 where the command takes no tag (30_encoding.md R82, R84, R88). -/
def EncodingWellFormed.Statement (i : Instr) : Prop :=
  i.wellFormed = true ∧ splitWord (encode i) = { rsvd := 0, tag := i.tag?.getD 0, opc := i.opcode }

theorem encodingWellFormed_of_opcode {i : Instr} (h : listedOpcodes.contains i.opcode = true) :
    EncodingWellFormed.Statement i :=
  ⟨by rw [Instr.wellFormed, CmdFields.wellFormed, CmdFields.opcodeListed]; exact h, splitWord_joinWord _⟩

theorem EncodingWellFormed.tlvPlen : EncodingWellFormed.Statement .tlvPlen := encodingWellFormed_of_opcode (by decide)

theorem EncodingWellFormed.tlvElen : EncodingWellFormed.Statement .tlvElen := encodingWellFormed_of_opcode (by decide)

theorem EncodingWellFormed.tlvVtag (t : Byte) : EncodingWellFormed.Statement (.tlvVtag t) :=
  encodingWellFormed_of_opcode (i := .tlvVtag t)
    (by decide : listedOpcodes.contains (Instr.opcode (.tlvVtag 0)) = true)

theorem EncodingWellFormed.tlvPbyte (t : Byte) : EncodingWellFormed.Statement (.tlvPbyte t) :=
  encodingWellFormed_of_opcode (i := .tlvPbyte t)
    (by decide : listedOpcodes.contains (Instr.opcode (.tlvPbyte 0)) = true)

theorem EncodingWellFormed.tlvPu16 (t : Byte) : EncodingWellFormed.Statement (.tlvPu16 t) :=
  encodingWellFormed_of_opcode (i := .tlvPu16 t)
    (by decide : listedOpcodes.contains (Instr.opcode (.tlvPu16 0)) = true)

theorem EncodingWellFormed.tlvPu24 (t : Byte) : EncodingWellFormed.Statement (.tlvPu24 t) :=
  encodingWellFormed_of_opcode (i := .tlvPu24 t)
    (by decide : listedOpcodes.contains (Instr.opcode (.tlvPu24 0)) = true)

theorem EncodingWellFormed.tlvPu32 (t : Byte) : EncodingWellFormed.Statement (.tlvPu32 t) :=
  encodingWellFormed_of_opcode (i := .tlvPu32 t)
    (by decide : listedOpcodes.contains (Instr.opcode (.tlvPu32 0)) = true)

theorem EncodingWellFormed.tlvPu64 (t : Byte) : EncodingWellFormed.Statement (.tlvPu64 t) :=
  encodingWellFormed_of_opcode (i := .tlvPu64 t)
    (by decide : listedOpcodes.contains (Instr.opcode (.tlvPu64 0)) = true)

theorem EncodingWellFormed.tlvPstr (t : Byte) : EncodingWellFormed.Statement (.tlvPstr t) :=
  encodingWellFormed_of_opcode (i := .tlvPstr t)
    (by decide : listedOpcodes.contains (Instr.opcode (.tlvPstr 0)) = true)

theorem EncodingWellFormed.tlvEbyte (t : Byte) : EncodingWellFormed.Statement (.tlvEbyte t) :=
  encodingWellFormed_of_opcode (i := .tlvEbyte t)
    (by decide : listedOpcodes.contains (Instr.opcode (.tlvEbyte 0)) = true)

theorem EncodingWellFormed.tlvEu16 (t : Byte) : EncodingWellFormed.Statement (.tlvEu16 t) :=
  encodingWellFormed_of_opcode (i := .tlvEu16 t)
    (by decide : listedOpcodes.contains (Instr.opcode (.tlvEu16 0)) = true)

theorem EncodingWellFormed.tlvEu24 (t : Byte) : EncodingWellFormed.Statement (.tlvEu24 t) :=
  encodingWellFormed_of_opcode (i := .tlvEu24 t)
    (by decide : listedOpcodes.contains (Instr.opcode (.tlvEu24 0)) = true)

theorem EncodingWellFormed.tlvEu32 (t : Byte) : EncodingWellFormed.Statement (.tlvEu32 t) :=
  encodingWellFormed_of_opcode (i := .tlvEu32 t)
    (by decide : listedOpcodes.contains (Instr.opcode (.tlvEu32 0)) = true)

theorem EncodingWellFormed.tlvEu64 (t : Byte) : EncodingWellFormed.Statement (.tlvEu64 t) :=
  encodingWellFormed_of_opcode (i := .tlvEu64 t)
    (by decide : listedOpcodes.contains (Instr.opcode (.tlvEu64 0)) = true)

theorem EncodingWellFormed.tlvEstr (t : Byte) : EncodingWellFormed.Statement (.tlvEstr t) :=
  encodingWellFormed_of_opcode (i := .tlvEstr t)
    (by decide : listedOpcodes.contains (Instr.opcode (.tlvEstr 0)) = true)

theorem EncodingWellFormed.tlvEbool : EncodingWellFormed.Statement .tlvEbool := encodingWellFormed_of_opcode (by decide)

theorem EncodingWellFormed.crcCalc : EncodingWellFormed.Statement .crcCalc := encodingWellFormed_of_opcode (by decide)

theorem EncodingWellFormed.crcGen : EncodingWellFormed.Statement .crcGen := encodingWellFormed_of_opcode (by decide)

theorem EncodingWellFormed.crcCheck : EncodingWellFormed.Statement .crcCheck := encodingWellFormed_of_opcode (by decide)

theorem EncodingWellFormed.sigGen : EncodingWellFormed.Statement .sigGen := encodingWellFormed_of_opcode (by decide)

theorem EncodingWellFormed.sigVerify : EncodingWellFormed.Statement .sigVerify :=
  encodingWellFormed_of_opcode (by decide)

theorem EncodingWellFormed.timeToWire : EncodingWellFormed.Statement .timeToWire :=
  encodingWellFormed_of_opcode (by decide)

theorem EncodingWellFormed.timeToWireHp : EncodingWellFormed.Statement .timeToWireHp :=
  encodingWellFormed_of_opcode (by decide)

theorem EncodingWellFormed.timeFromWire : EncodingWellFormed.Statement .timeFromWire :=
  encodingWellFormed_of_opcode (by decide)

theorem EncodingWellFormed.timePackRt : EncodingWellFormed.Statement .timePackRt :=
  encodingWellFormed_of_opcode (by decide)

theorem EncodingWellFormed.timeUnpackRt : EncodingWellFormed.Statement .timeUnpackRt :=
  encodingWellFormed_of_opcode (by decide)

theorem EncodingWellFormed.hdrDetect : EncodingWellFormed.Statement .hdrDetect :=
  encodingWellFormed_of_opcode (by decide)

theorem EncodingWellFormed.hdrParse : EncodingWellFormed.Statement .hdrParse := encodingWellFormed_of_opcode (by decide)

theorem EncodingWellFormed.hdrGenPlain : EncodingWellFormed.Statement .hdrGenPlain :=
  encodingWellFormed_of_opcode (by decide)

theorem EncodingWellFormed.hdrGenSession : EncodingWellFormed.Statement .hdrGenSession :=
  encodingWellFormed_of_opcode (by decide)

theorem EncodingWellFormed.hdrCmdCheck : EncodingWellFormed.Statement .hdrCmdCheck :=
  encodingWellFormed_of_opcode (by decide)

end Sys2Proof.Laws
end

