-- ==== Sys2Proof/Tests/Slice0.lean ====
section
/-! SUPPORT. The model's own tests, each one step on a small state. Expected values are those of
spec/95_test_vectors.md, whose vector is named beside each test, or are worked out by hand from the rule named.
`witness_<obligation>` shows concrete states and operands that meet the hypotheses of that obligation, clause by
clause, at boundary values. -/

namespace Sys2Proof.Tests

open Sys2Proof Sys2Proof.Machine

/-- Reset with the given bytes in BUF from offset a; the window, SRC and LEN span exactly them. -/
def holding (a : Nat) (bs : List Byte) : State :=
  { State.reset.writeBytes a bs with
    cur := BitVec.ofNat 32 a, lim := BitVec.ofNat 32 (a + bs.length),
    src := BitVec.ofNat 32 a, len := BitVec.ofNat 32 bs.length }

/-- Reset with the window [0, n). -/
def window (n : Nat) : State := { State.reset with lim := BitVec.ofNat 32 n }

/-- s with the key "Jefe" (KEYLEN = 4, KEY0 = 0x6566654A). -/
def withJefe (s : State) : State := { s with keyLen := 4, key := Vector.replicate 16 0x6566654A }

/-- The state a command leaves. -/
def after (i : Instr) (s : State) : State :=
  match exec i s with
  | .next t => t
  | _ => s

/-- Every command answers a next state. -/
theorem exec_after (i : Instr) (s : State) : exec i s = .next (after i s) := by
  cases i <;> rfl

/-! ## Well-formedness: one ill-formed word for each check, and a well-formed one -/

theorem test_wf_refuses_reserved_bits :
    CmdFields.reservedClear ⟨1, 0, 0x10⟩ = false ∧ CmdFields.wellFormed ⟨1, 0, 0x10⟩ = false := by decide
theorem test_wf_refuses_unlisted_opcode :
    CmdFields.opcodeListed ⟨0, 0, 0x25⟩ = false ∧ CmdFields.wellFormed ⟨0, 0, 0x25⟩ = false := by decide
theorem test_wf_accepts_listed_command : CmdFields.wellFormed ⟨0, 0x30, 0x12⟩ = true := by decide

/-! ## Decoding: every command's word, bit by bit for one of each family (R81, R84) -/

theorem test_decode_bits :
    decode 0b00000000000000000011000000010010 = .ok (.tlvVtag 0x30) ∧
    decode 0b00000000000000000000000000100001 = .ok .crcGen ∧
    decode 0b00000000000000000000000000100011 = .ok .sigGen ∧
    decode 0b00000000000000000000000000110010 = .ok .timeFromWire ∧
    decode 0b00000000000000000000000001000010 = .ok .hdrGenPlain := by decide
theorem test_decode_tlv_parse :
    decode 0x00000010 = .ok .tlvPlen ∧ decode 0x00003012 = .ok (.tlvVtag 0x30) ∧
    decode 0x00008013 = .ok (.tlvPbyte 0x80) ∧ decode 0x00008214 = .ok (.tlvPu16 0x82) ∧
    decode 0x00008415 = .ok (.tlvPu24 0x84) ∧ decode 0x00008316 = .ok (.tlvPu32 0x83) ∧
    decode 0x00008417 = .ok (.tlvPu64 0x84) ∧ decode 0x00008718 = .ok (.tlvPstr 0x87) := by decide
theorem test_decode_tlv_encode :
    decode 0x00000011 = .ok .tlvElen ∧ decode 0x00008519 = .ok (.tlvEbyte 0x85) ∧
    decode 0x0000821A = .ok (.tlvEu16 0x82) ∧ decode 0x0000861B = .ok (.tlvEu24 0x86) ∧
    decode 0x0000831C = .ok (.tlvEu32 0x83) ∧ decode 0x0000841D = .ok (.tlvEu64 0x84) ∧
    decode 0x0000801E = .ok (.tlvEstr 0x80) ∧ decode 0x0000001F = .ok .tlvEbool := by decide
theorem test_decode_checksum_signature :
    decode 0x00000020 = .ok .crcCalc ∧ decode 0x00000021 = .ok .crcGen ∧ decode 0x00000022 = .ok .crcCheck ∧
    decode 0x00000023 = .ok .sigGen ∧ decode 0x00000024 = .ok .sigVerify := by decide
theorem test_decode_time :
    decode 0x00000030 = .ok .timeToWire ∧ decode 0x00000031 = .ok .timeToWireHp ∧
    decode 0x00000032 = .ok .timeFromWire ∧ decode 0x00000033 = .ok .timePackRt ∧
    decode 0x00000034 = .ok .timeUnpackRt := by decide
theorem test_decode_header :
    decode 0x00000040 = .ok .hdrDetect ∧ decode 0x00000041 = .ok .hdrParse ∧ decode 0x00000042 = .ok .hdrGenPlain ∧
    decode 0x00000043 = .ok .hdrGenSession ∧ decode 0x00000044 = .ok .hdrCmdCheck := by decide
/-- Vectors E1, E2, E3 and E5. -/
theorem test_decode_refuses :
    decode 0x00010010 = .error .reservedBits ∧ decode 0x00000025 = .error (.unknownOpcode 0x25) ∧
    decode 0x00000000 = .error (.unknownOpcode 0) ∧ decode 0xFFFF0041 = .error .reservedBits := by decide
theorem test_encode_words :
    encode (.tlvVtag 0x30) = 0x00003012 ∧ encode .tlvPlen = 0x00000010 ∧ encode .hdrCmdCheck = 0x00000044 := by
  decide

/-! ## The step -/

/-- E4: TLV.PLEN from reset raises OutOfBounds (ERR = 0x000008), as the first command after reset. -/
theorem test_step_runs_first_command :
    (match step (State.reset.withFetchWord 32 0xFF10) with
     | .next t => decide (t.err = 0x000008 ∧ t.status = 2 ∧ t.pending = [])
     | _ => false) = true := by decide
/-- E2 as a step: ERR = 0x250209. -/
theorem test_step_illegal_command :
    (match step (State.reset.withFetchWord 32 0x25) with
     | .next t => decide (t.err = 0x250209 ∧ t.status = 2)
     | _ => false) = true := by decide

/-! ## TLV commands -/

/-- T24: 82 00 05. -/
theorem test_plen_accepts_long_form :
    (after .tlvPlen (holding 0 [0x82, 0x00, 0x05])).rlen = 5 ∧
    (after .tlvPlen (holding 0 [0x82, 0x00, 0x05])).cur = 3 := by decide
/-- T28: 82 01. -/
theorem test_plen_out_of_bounds :
    (after .tlvPlen (holding 0 [0x82, 0x01])).err = 0x000008 ∧ (after .tlvPlen (holding 0 [0x82, 0x01])).cur = 0 := by
  decide
/-- T8: LEN = 4660. -/
theorem test_elen_three_bytes :
    (after .tlvElen { window 16 with len := 4660 }).bytesAt 0 3 = [0x82, 0x12, 0x34] ∧
    (after .tlvElen { window 16 with len := 4660 }).cur = 3 := by decide
/-- T10: LEN = 65536. -/
theorem test_elen_value_too_large :
    (after .tlvElen { window 16 with len := 65536 }).err = 0x000006 ∧
    (after .tlvElen { window 16 with len := 65536 }).buf = [] := by decide
/-- T40: 30 81 90, the value outside the window. -/
theorem test_vtag :
    (after (.tlvVtag 0x30) (holding 0 [0x30, 0x81, 0x90])).rlen = 0x90 ∧
    (after (.tlvVtag 0x30) (holding 0 [0x30, 0x81, 0x90])).raddr = 3 ∧
    (after (.tlvVtag 0x30) (holding 0 [0x30, 0x81, 0x90])).cur = 3 := by decide
/-- T42: 80 03 2A 01 02. -/
theorem test_pbyte_skips_excess :
    (after (.tlvPbyte 0x80) (holding 0 [0x80, 0x03, 0x2A, 0x01, 0x02])).valLo = 0x2A ∧
    (after (.tlvPbyte 0x80) (holding 0 [0x80, 0x03, 0x2A, 0x01, 0x02])).cur = 5 := by decide
/-- T43: 80 00 2A. -/
theorem test_pbyte_too_short : (after (.tlvPbyte 0x80) (holding 0 [0x80, 0x00, 0x2A])).err = 0x000201 := by decide
/-- T44: 82 02 12 34, with VAL_HI cleared. -/
theorem test_pu16 :
    (after (.tlvPu16 0x82) { holding 0 [0x82, 0x02, 0x12, 0x34] with valHi := 7 }).valLo = 0x1234 ∧
    (after (.tlvPu16 0x82) { holding 0 [0x82, 0x02, 0x12, 0x34] with valHi := 7 }).valHi = 0 := by decide
/-- T46: the tag at CUR is 82. -/
theorem test_pu16_unexpected_tag :
    (after (.tlvPu16 0x83) (holding 0 [0x82, 0x02, 0x12, 0x34])).err = 0x820101 := by decide
/-- T48: 84 03 AB CD EF. -/
theorem test_pu24 :
    (after (.tlvPu24 0x84) (holding 0 [0x84, 0x03, 0xAB, 0xCD, 0xEF])).valLo = 0xABCDEF ∧
    (after (.tlvPu24 0x84) (holding 0 [0x84, 0x03, 0xAB, 0xCD, 0xEF])).cur = 5 := by decide
/-- T49: 83 82 00 04 DE AD BE EF. -/
theorem test_pu32 :
    (after (.tlvPu32 0x83) (holding 0 [0x83, 0x82, 0x00, 0x04, 0xDE, 0xAD, 0xBE, 0xEF])).valLo = 0xDEADBEEF ∧
    (after (.tlvPu32 0x83) (holding 0 [0x83, 0x82, 0x00, 0x04, 0xDE, 0xAD, 0xBE, 0xEF])).raddr = 4 := by decide
/-- T51: 84 08 65 53 F1 00 80 00 00 00. -/
theorem test_pu64 :
    (after (.tlvPu64 0x84) (holding 0 [0x84, 0x08, 0x65, 0x53, 0xF1, 0x00, 0x80, 0, 0, 0])).valHi = 0x6553F100 ∧
    (after (.tlvPu64 0x84) (holding 0 [0x84, 0x08, 0x65, 0x53, 0xF1, 0x00, 0x80, 0, 0, 0])).valLo = 0x80000000 := by
  decide
/-- T52: length 7. -/
theorem test_pu64_too_short :
    (after (.tlvPu64 0x84) (holding 0 [0x84, 0x07, 1, 1, 1, 1, 1, 1, 1])).err = 0x070201 := by decide
/-- T53: 80 03 34 32 5F. -/
theorem test_pstr :
    (after (.tlvPstr 0x80) (holding 0 [0x80, 0x03, 0x34, 0x32, 0x5F])).rlen = 3 ∧
    (after (.tlvPstr 0x80) (holding 0 [0x80, 0x03, 0x34, 0x32, 0x5F])).raddr = 2 ∧
    (after (.tlvPstr 0x80) (holding 0 [0x80, 0x03, 0x34, 0x32, 0x5F])).cur = 5 := by decide
/-- T56: the string passes the window. -/
theorem test_pstr_out_of_bounds : (after (.tlvPstr 0x80) (holding 0 [0x80, 0x05, 0x41])).err = 0x000008 := by decide
/-- T61: VAL_LO = 0x1FF. -/
theorem test_ebyte :
    (after (.tlvEbyte 0x85) { window 16 with valLo := 0x1FF }).bytesAt 0 3 = [0x85, 0x01, 0xFF] := by decide
/-- T63: VAL_LO = 0x1234. -/
theorem test_eu16 :
    (after (.tlvEu16 0x82) { window 16 with valLo := 0x1234 }).bytesAt 0 4 = [0x82, 0x02, 0x12, 0x34] := by decide
/-- T64: VAL_LO = 0x01000000. -/
theorem test_eu24 :
    (after (.tlvEu24 0x86) { window 16 with valLo := 0x01000000 }).bytesAt 0 5 = [0x86, 0x03, 0, 0, 0] := by decide
/-- T65: VAL_LO = 7. -/
theorem test_eu32 :
    (after (.tlvEu32 0x83) { window 16 with valLo := 7 }).bytesAt 0 6 = [0x83, 0x04, 0, 0, 0, 7] ∧
    (after (.tlvEu32 0x83) { window 16 with valLo := 7 }).cur = 6 := by decide
/-- T66: LIM = 5. -/
theorem test_eu32_out_of_bounds :
    (after (.tlvEu32 0x83) { window 5 with valLo := 0x12345678 }).err = 0x000008 ∧
    (after (.tlvEu32 0x83) { window 5 with valLo := 0x12345678 }).buf = [] := by decide
/-- T68: VAL_HI = 0x6553F100, VAL_LO = 0x80000000. -/
theorem test_eu64 :
    (after (.tlvEu64 0x84) { window 16 with valHi := 0x6553F100, valLo := 0x80000000 }).bytesAt 0 10 =
      [0x84, 0x08, 0x65, 0x53, 0xF1, 0x00, 0x80, 0, 0, 0] := by decide
/-- T69: the string "42_S1" at 0x40. -/
theorem test_estr :
    (after (.tlvEstr 0x80) { holding 0x40 [0x34, 0x32, 0x5F, 0x53, 0x31] with cur := 0, lim := 16 }).bytesAt 0 7 =
      [0x80, 0x05, 0x34, 0x32, 0x5F, 0x53, 0x31] := by decide
/-- R78, R128: an overlapping copy writes the bytes SRC held before the command. -/
theorem test_estr_overlap :
    (after (.tlvEstr 0x80) { holding 0 [1, 2, 3] with lim := 16 }).bytesAt 0 5 = [0x80, 3, 1, 2, 3] := by decide
/-- T73. -/
theorem test_ebool : (after .tlvEbool (window 16)).err = 0x000007 ∧ (after .tlvEbool (window 16)).status = 2 := by
  decide

/-! ## Checksum and signature commands -/

/-- The nine bytes "123456789". -/
def digits : List Byte := [0x31, 0x32, 0x33, 0x34, 0x35, 0x36, 0x37, 0x38, 0x39]

/-- C10. -/
theorem test_crc_calc : (after .crcCalc (holding 0 digits)).crc = 0x29B1 := by decide +kernel
/-- C11. -/
theorem test_crc_gen :
    (after .crcGen (holding 0 digits)).bytesAt 9 2 = [0x29, 0xB1] ∧
    (after .crcGen (holding 0 digits)).crc = 0x29B1 := by
  decide +kernel
/-- C12. -/
theorem test_crc_check :
    (after .crcCheck { holding 0 (digits ++ [0x29, 0xB1]) with len := 9 }).status = 0 := by decide +kernel
/-- C12 with BUF[10] = 0xB0: CRC keeps its old value. -/
theorem test_crc_check_mismatch :
    (after .crcCheck { holding 0 (digits ++ [0x29, 0xB0]) with len := 9, crc := 5 }).err = 0x000002 ∧
    (after .crcCheck { holding 0 (digits ++ [0x29, 0xB0]) with len := 9, crc := 5 }).crc = 5 := by decide +kernel

/-- The first and the last constant of FIPS 180-4's tables, computed from their primes (log 8). -/
theorem test_sha_constants :
    shaK.head? = some 0x428a2f98 ∧ shaK.getLast? = some 0xc67178f2 ∧ shaK.length = 64 ∧
    shaInit.head? = some 0x6a09e667 ∧ shaInit.getLast? = some 0x5be0cd19 ∧ shaInit.length = 8 := by decide +kernel

/-- The signature vectors' frame: two bytes, the message "what do ya want for nothing?", and a Sha80 trailer whose
first MAC byte is b and whose marker is m (S3: b = 0x5B, m = 0x85). -/
def signed (m b : Byte) : State :=
  { withJefe (holding 0 ([0, 0] ++
      [0x77, 0x68, 0x61, 0x74, 0x20, 0x64, 0x6F, 0x20, 0x79, 0x61, 0x20, 0x77, 0x61, 0x6E, 0x74, 0x20, 0x66, 0x6F,
       0x72, 0x20, 0x6E, 0x6F, 0x74, 0x68, 0x69, 0x6E, 0x67, 0x3F] ++
      [m, b, 0xDC, 0xC1, 0x46, 0xBF, 0x60, 0x75, 0x4E, 0x6A, 0x04])) with sSigAlg := 1 }

/-- S3. -/
theorem test_sig_gen :
    (after .sigGen (signed 0 0)).bytesAt 30 11 =
      [0x85, 0x5B, 0xDC, 0xC1, 0x46, 0xBF, 0x60, 0x75, 0x4E, 0x6A, 0x04] := by decide +kernel
/-- S8. -/
theorem test_sig_gen_bad_code : (after .sigGen { signed 0 0 with sSigAlg := 9 }).err = 0x090701 := by decide
/-- S4 and S5 with CONFIG = 0x01: STATUS.SIGFAIL. -/
theorem test_sig_verify :
    (after .sigVerify (signed 0x85 0x5B)).status = 0 ∧ (after .sigVerify (signed 0x85 0x5A)).status = 4 := by
  decide +kernel
/-- S5 with CONFIG = 0x00, and S6. -/
theorem test_sig_verify_errors :
    (after .sigVerify { signed 0x85 0x5A with config := 0 }).err = 0x000003 ∧
    (after .sigVerify (signed 0x84 0x5A)).err = 0x840004 := by decide +kernel

/-! ## Time commands -/

/-- Reset with the given T_SEC and T_NS. -/
def atTime (sec ns : Word) : State := { State.reset with tSec := sec, tNs := ns }

/-- M4. -/
theorem test_to_wire :
    (after .timeToWire (atTime 1700000000 123456789)).wFrac = 0x1F9ADD ∧
    (after .timeToWire (atTime 1700000000 123456789)).wSoc = 1700000000 := by decide
/-- M8: the carry wraps W_SOC. -/
theorem test_to_wire_carry :
    (after .timeToWire { atTime 0xFFFFFFFF 999999999 with wSoc := 1, wFrac := 1 }).wSoc = 0 ∧
    (after .timeToWire { atTime 0xFFFFFFFF 999999999 with wSoc := 1, wFrac := 1 }).wFrac = 0 := by decide
/-- M20. -/
theorem test_to_wire_hp : (after .timeToWireHp { atTime 1700000000 33333333 with fps := 30 }).wFrac = 559241 := by
  decide
/-- M30: the carry of the last frame. -/
theorem test_to_wire_hp_carry :
    (after .timeToWireHp { atTime 10 980000000 with fps := 25 }).wSoc = 11 ∧
    (after .timeToWireHp { atTime 10 980000000 with fps := 25 }).wFrac = 0 := by decide
/-- M41. -/
theorem test_from_wire_masks :
    (after .timeFromWire { State.reset with wSoc := 1700000000, wFrac := 0xF0800000 }).tNs = 500000000 ∧
    (after .timeFromWire { State.reset with wSoc := 1700000000, wFrac := 0xF0800000 }).tSec = 1700000000 := by decide
/-- M44: with no mask the fraction's high bits are whole seconds. -/
theorem test_from_wire_carries :
    (after .timeFromWire { State.reset with wSoc := 1700000000, wFrac := 0x0F000000, tqMask := 0 }).tSec =
      1700000015 := by decide
/-- M61. -/
theorem test_pack_rt :
    (after .timePackRt { State.reset with wSoc := 5, wFrac := 0xAB123456, tq := 0x5F }).valHi = 5 ∧
    (after .timePackRt { State.reset with wSoc := 5, wFrac := 0xAB123456, tq := 0x5F }).valLo = 0x1234565F := by decide
/-- M62. -/
theorem test_unpack_rt :
    (after .timeUnpackRt { State.reset with valHi := 0x6553F100, valLo := 0x80000003 }).wSoc = 0x6553F100 ∧
    (after .timeUnpackRt { State.reset with valHi := 0x6553F100, valLo := 0x80000003 }).wFrac = 0x800000 ∧
    (after .timeUnpackRt { State.reset with valHi := 0x6553F100, valLo := 0x80000003 }).tq = 3 := by decide

/-! ## Header commands -/

/-- F14 of the header vectors with the given type byte, last frame length byte and fraction word's first bytes. -/
def f14 (ty len tq fr : Byte) : List Byte := [0xAA, ty, 0x00, len, 0x00, 0x07, 0x65, 0x53, 0xF1, 0x00, tq, fr, 0, 0]

/-- H12: the sync byte wins. -/
theorem test_detect_sync_first : (after .hdrDetect (holding 0 [0xAA, 0x40])).hFormat = 1 := by decide
/-- H11. -/
theorem test_detect_unknown : (after .hdrDetect (holding 0 [0x12, 0x34])).err = 0x120901 := by decide
/-- H10, with the registers of H4. -/
theorem test_parse_plain :
    (after .hdrParse (holding 0 (f14 0x30 14 0xF0 0x80))).hFracSec = 0xF0800000 ∧
    (after .hdrParse (holding 0 (f14 0x30 14 0xF0 0x80))).tq = 0xF0 ∧
    (after .hdrParse (holding 0 (f14 0x30 14 0xF0 0x80))).tNs = 500000000 ∧
    (after .hdrParse (holding 0 (f14 0x30 14 0xF0 0x80))).tSec = 1700000000 ∧
    (after .hdrParse (holding 0 (f14 0x30 14 0xF0 0x80))).hIdCode = 7 := by decide +kernel
/-- H16: BUF[0x20..0x2D]. -/
theorem test_gen_plain :
    (after .hdrGenPlain { atTime 1700000000 33333333 with
        hVersion := 2, hFrameLen := 0x40, hIdCode := 0x1234, tq := 0x0A, fps := 30, src := 0x20 }).bytesAt 0x20 14 =
      [0xAA, 0x02, 0x00, 0x40, 0x12, 0x34, 0x65, 0x53, 0xF1, 0x00, 0x0A, 0x08, 0x88, 0x89] := by decide +kernel
/-- H17. -/
theorem test_gen_plain_bad_type :
    (after .hdrGenPlain { atTime 1700000000 0 with hType := 5, hFrameLen := 14 }).err = 0x050A01 := by decide

/-- H9: a machine built with BUF_SIZE = 4096, and a frame length of 0xFFFF. -/
theorem test_parse_small_buffer :
    (after .hdrParse
      { (holding 0 ((f14 0x30 0xFF 0 0).set 2 0xFF)) with
        params := { Params.default with bufSize := 4096, bufSizeLegal := by decide } }).err = 0x00000B := by
  decide +kernel

/-- F55 of the header vectors, with the given first byte, session type, packet number low byte, signature code and
PDU type byte. -/
def f55 (cltp styp pkt sig pty : Byte) : List Byte :=
  [cltp, 0x40, styp, 0x18, 0x80, 0x16, 0, 0, 0, 0x2E, 0, 0, 0, pkt, 0, 1] ++
  [0, 0, 0, 0, 0, 0, 0, sig, 0, 0, 0, 0, 0, 0, 0, 0x17] ++
  [pty, 0, 0, 0, 0, 0x11, 0x60, 0x0F, 0x80, 1, 1, 0xA2, 0x0A, 0x30, 8, 0x82] ++
  [2, 0, 1, 0x83, 2, 0, 5]

/-- H22. -/
theorem test_parse_session :
    (after .hdrParse (holding 0 (f55 1 0xA2 0 0 0x82))).status = 8 ∧
    (after .hdrParse (holding 0 (f55 1 0xA2 0 0 0x82))).hHdrLen = 45 ∧
    (after .hdrParse (holding 0 (f55 1 0xA2 0 0 0x82))).sSpduLen = 46 ∧
    (after .hdrParse (holding 0 (f55 1 0xA2 0 0 0x82))).sAsduLen = 17 ∧
    (after .hdrParse (holding 0 (f55 1 0xA2 0 0 0x82))).sAsduCount = 1 := by decide +kernel
/-- H29: the first 45 bytes of F55. -/
theorem test_gen_session :
    (after .hdrGenSession { State.reset with sAsduCount := 1, sBodyLen := 10 }).bytesAt 0 45 =
      (f55 1 0xA2 0 0 0x82).take 45 ∧
    (after .hdrGenSession { State.reset with sAsduCount := 1, sBodyLen := 10 }).hFrameLen = 55 ∧
    (after .hdrGenSession { State.reset with sAsduCount := 1, sBodyLen := 10 }).sPayLen = 23 := by decide +kernel
/-- H43. -/
theorem test_gen_session_empty :
    (after .hdrGenSession { State.reset with sBodyLen := 10 }).err = 0x000801 := by decide +kernel

/-- C16 of the header vectors, with the given first byte, type byte, frame length and CRC low byte. -/
def c16 (sync ty len crcLo : Byte) : List Byte :=
  [sync, ty, 0x00, len, 0x00, 0x07, 0x65, 0x53, 0xF1, 0x00, 0, 0, 0, 0, 0xA6, crcLo]

/-- H41. -/
theorem test_cmd_check :
    (after .hdrCmdCheck (holding 0 (c16 0xAA 0x41 16 0x58))).crc = 0xA658 ∧
    (after .hdrCmdCheck (holding 0 (c16 0xAA 0x41 16 0x58))).hType = 4 ∧
    (after .hdrCmdCheck (holding 0 (c16 0xAA 0x41 16 0x58))).hHdrLen = 14 := by decide +kernel
/-- H42's boundary on C16: one trailer byte changed. -/
theorem test_cmd_check_mismatch :
    (after .hdrCmdCheck (holding 0 (c16 0xAA 0x41 16 0x59))).err = 0x000002 := by decide +kernel

/-! ## Witnesses: the hypotheses of each obligation that has any, met clause by clause -/

/-- Reset with one host event pending. -/
def asked (ev : HostEvent) : State := { State.reset with pending := [ev] }

theorem witness_TagIsAnOperandExactlyWhereListed :
    (decode 0x0000FF12 = .ok (.tlvVtag 0xFF) ∧ (Instr.tlvVtag 0xFF).tag?.isSome = true) ∧
    (decode 0x0000001E = .ok (.tlvEstr 0) ∧ (Instr.tlvEstr 0).tag?.isSome = true) ∧
    (decode 0x00000010 = .ok .tlvPlen ∧ Instr.tlvPlen.tag? = none ∧
      (0x0000FF10 : Word) &&& 0xFFFF00FF = 0x00000010 &&& 0xFFFF00FF) := by decide
/-- Reserved bits at both ends; the last opcode below each block and the first above it; both ends of each block. -/
theorem witness_IllegalCommandWordsRaise :
    (∀ w ∈ ([0x00010010, 0x80000010, 0xFFFF0041] : List Word), w.extractLsb' 16 16 ≠ 0) ∧
    (∀ w ∈ ([0x00, 0x0F, 0x25, 0x2F, 0x35, 0x3F, 0x45, 0xFF] : List Word), w.extractLsb' 16 16 = 0 ∧
      ((w.extractLsb' 0 8).toNat < 0x10 ∨
       (0x25 ≤ (w.extractLsb' 0 8).toNat ∧ (w.extractLsb' 0 8).toNat ≤ 0x2F) ∨
       (0x35 ≤ (w.extractLsb' 0 8).toNat ∧ (w.extractLsb' 0 8).toNat ≤ 0x3F) ∨
       0x45 ≤ (w.extractLsb' 0 8).toNat)) ∧
    (∀ w ∈ ([0x10, 0xFF24, 0x30, 0x34, 0x40, 0x44] : List Word), w.extractLsb' 16 16 = 0 ∧
      ((0x10 ≤ (w.extractLsb' 0 8).toNat ∧ (w.extractLsb' 0 8).toNat ≤ 0x24) ∨
       (0x30 ≤ (w.extractLsb' 0 8).toNat ∧ (w.extractLsb' 0 8).toNat ≤ 0x34) ∨
       (0x40 ≤ (w.extractLsb' 0 8).toNat ∧ (w.extractLsb' 0 8).toNat ≤ 0x44))) := by
  simp
theorem witness_StepRunsTheDecodedCommand :
    (asked (.write .csr 0 4 0x3012)).pending = .write .csr 0 4 0x3012 :: [] ∧
    decode 0x3012 = .ok (.tlvVtag 0x30) ∧ (Instr.tlvVtag 0x30).wellFormed = true := by decide
theorem witness_CommandsLeaveHostOwnedRegisters :
    ∃ t, exec .tlvPlen (holding 0 [0x7F]) = .next t ∧ t.cur ≠ (holding 0 [0x7F]).cur :=
  ⟨_, exec_after _ _, by decide⟩
/-- A command that never stores, and a storing command that fails. -/
theorem witness_OnlyStoringCommandsChangeTheBuffer :
    (∃ t, exec .tlvPlen (holding 0 [0x7F]) = .next t ∧
      Instr.tlvPlen.opcode ∉ ([0x11, 0x19, 0x1A, 0x1B, 0x1C, 0x1D, 0x1E, 0x21, 0x23, 0x42, 0x43] : List Byte)) ∧
    (∃ t, exec .tlvElen { window 16 with len := 65536 } = .next t ∧ t.res ≠ resOk) :=
  ⟨⟨_, exec_after _ _, by decide⟩, ⟨_, exec_after _ _, by decide⟩⟩
theorem witness_OnlyListedErrorsAreRaised : ∃ t, exec .tlvEbool State.reset = .next t ∧ t.res = resError :=
  ⟨_, exec_after _ _, by decide⟩
theorem witness_OnlyFrameDecodersDefer :
    ∃ t, exec .hdrDetect (holding 0 [0xAA]) = .next t ∧ t.res = resNeedMore :=
  ⟨_, exec_after _ _, by decide⟩
theorem witness_StepKeepsLegalStates :
    (asked .platformReset).Legal ∧ ∃ t, step (asked .platformReset) = .next t :=
  ⟨by constructor <;> decide, _, rfl⟩
/-- The last word of the CSR window and the last byte of BUF; then one past each, a byte access of a CSR, a
misaligned word, and a word access of BUF. -/
theorem witness_HostAccessStopsExactlyWhenNotAdmitted :
    (∃ t, step (asked (.read .csr 0xFFC 4)) = .next t) ∧ (∃ t, step (asked (.read .buf 65535 1)) = .next t) ∧
    step (asked (.read .csr 0x1000 4)) = .fault .outsideCsrWindow ∧
    step (asked (.write .buf 65536 1 0)) = .fault .stuckBufAccess ∧
    step (asked (.write .csr 0 1 0)) = .fault .stuckCsrAccess ∧
    step (asked (.read .csr 2 4)) = .fault .stuckCsrAccess ∧
    step (asked (.read .buf 0 4)) = .fault .stuckBufAccess :=
  ⟨⟨_, rfl⟩, ⟨_, rfl⟩, rfl, rfl, rfl, rfl, rfl⟩
theorem witness_AdmittedRunsNeverStop :
    State.queueAdmitted { State.reset with pending :=
      [.write .buf 65535 1 0xFF, .read .csr 0xFFC 4, .platformReset, .write .csr 0 4 0x10] } := by
  intro ev h
  simp only [List.mem_cons, List.not_mem_nil, or_false] at h
  rcases h with rfl | rfl | rfl | rfl <;> decide
theorem witness_CsrWriteThenRead :
    Csr.cur.access = .readWrite ∧ (Csr.key 15).access = .readWrite ∧ Csr.err.access ≠ .readWrite ∧
    Csr.cmd.access ≠ .readWrite ∧ Csr.lim ≠ Csr.cur ∧ Csr.lim ≠ Csr.length ∧ Csr.lim ≠ Csr.sTrailLen := by decide
theorem witness_ReservedCsrsReadZeroAndIgnoreWrites : ∀ off ∈ [0x100, 0xFFC, 0xFFF], 0x100 ≤ off ∧ off < 0x1000 := by
  decide
theorem witness_HostAccessesHaveNoSideEffect :
    (asked (.read .csr 0xFFC 4)).pending = [.read .csr 0xFFC 4] ∧ 0xFFC % 4 = 0 ∧ 0xFFC < 0x1000 ∧
    (asked (.read .buf 65535 1)).pending = [.read .buf 65535 1] ∧ 65535 < Params.default.bufSize ∧
    (asked (.write .csr 0x14 4 7)).pending = [.write .csr 0x14 4 7] ∧ 0x14 % 4 = 0 ∧ 0x14 ≠ 0 ∧
    (asked (.write .csr 0 4 0x25)).pending = [.write .csr 0 4 0x25] ∧
    (asked (.write .buf 0 1 7)).pending = [.write .buf 0 1 7] := by decide
theorem witness_ComputedRegistersReadAsStated :
    ({ State.reset with hType := 3 } : State).hType ≠ Params.default.ftData ∧
    (State.reset.hType = Params.default.ftData ∧ State.reset.status.getLsbD 3 = false) ∧
    (({ State.reset with status := 8 } : State).hType = Params.default.ftData ∧
      ({ State.reset with status := 8 } : State).status.getLsbD 3 = true) := by decide
theorem witness_PlatformResetRestoresResetValues :
    (asked .platformReset).pending = .platformReset :: [] ∧ State.reset.pending = [] := by decide

theorem witness_KeyRegistersHoldFourKeyBytes :
    (3 < 4 ∧ 63 < 64 ∧ 63 / 4 ≠ (14 : Fin 16).val) ∧ (0 < 64 ∧ 0 / 4 ≠ (15 : Fin 16).val) := by decide
/-- The byte below the bytes written at 5, the first and the last of them, and the byte above. -/
theorem witness_MemWriteReadsBack : 4 < 5 ∧ 0 < 3 ∧ 2 < 3 ∧ 5 + 3 ≤ 8 := by decide

/-- A header that ends the window exactly; a header that passes it by one byte; an empty window. -/
theorem witness_PlenParsesLengthHeader :
    (let s := holding 0 [0x82, 1, 2]; s.cur.toNat + s.headerSize s.cur.toNat ≤ s.winEnd) ∧
    (let s := holding 65535 [0x81]; s.winEnd < s.cur.toNat + s.headerSize s.cur.toNat) := by decide
theorem witness_VtagValidatesTag :
    (let s := holding 0 [0x30, 0x81, 0x90]; 0 + 1 + s.headerSize 1 ≤ s.winEnd ∧ s.byteAt 0 = 0x30) ∧
    (let s := window 0; s.winEnd < s.cur.toNat + 1) ∧
    (let s := holding 0 [0x31]; 0 + 1 ≤ s.winEnd ∧ s.byteAt 0 ≠ 0x30) ∧
    (let s := { holding 0 [0x30, 0x81] with lim := 2 };
      0 + 1 ≤ s.winEnd ∧ s.byteAt 0 = 0x30 ∧ s.winEnd < 0 + 1 + s.headerSize 1) := by decide
theorem witness_ScalarParsesReadDeclaredValue :
    (Instr.tlvPu24 0x84).scalarParse? = some (3, 0x84) ∧
    (let s := holding 0 [0x84, 3, 1, 2, 3];
      s.byteAt 0 = 0x84 ∧ 3 ≤ s.declaredLen 1 ∧ 1 + s.headerSize 1 + s.declaredLen 1 ≤ s.winEnd) ∧
    (window 0).winEnd < (window 0).cur.toNat + 1 ∧
    (let s := holding 0 [0x83]; 0 + 1 ≤ s.winEnd ∧ s.byteAt 0 ≠ 0x84) ∧
    (let s := { holding 0 [0x84, 0x82] with lim := 2 };
      0 + 1 ≤ s.winEnd ∧ s.byteAt 0 = 0x84 ∧ s.winEnd < 1 + s.headerSize 1) ∧
    (let s := holding 0 [0x84, 2];
      s.byteAt 0 = 0x84 ∧ 1 + s.headerSize 1 ≤ s.winEnd ∧ s.declaredLen 1 < 3) ∧
    (let s := holding 0 [0x84, 3, 1, 2];
      s.byteAt 0 = 0x84 ∧ 1 + s.headerSize 1 ≤ s.winEnd ∧ 3 ≤ s.declaredLen 1 ∧
      s.winEnd < 1 + s.headerSize 1 + s.declaredLen 1) := by decide
theorem witness_PstrLocatesString :
    (let s := holding 0 [0x80, 0]; s.byteAt 0 = 0x80 ∧ 1 + s.headerSize 1 + s.declaredLen 1 ≤ s.winEnd) ∧
    (window 0).winEnd < (window 0).cur.toNat + 1 ∧
    (let s := holding 0 [0x81]; 0 + 1 ≤ s.winEnd ∧ s.byteAt 0 ≠ 0x80) ∧
    (let s := holding 0 [0x80, 2, 0x41];
      0 + 1 ≤ s.winEnd ∧ s.byteAt 0 = 0x80 ∧ s.winEnd < 1 + s.headerSize 1 + s.declaredLen 1) := by decide
theorem witness_ElenStoresMinimalHeader :
    (let s := { window 3 with len := 65535 };
      s.len.toNat ≤ 65535 ∧ s.cur.toNat + (minimalHeader s.len.toNat).length ≤ s.winEnd) ∧
    65535 < ({ window 3 with len := 65536 } : State).len.toNat ∧
    (let s := { window 2 with len := 65535 };
      s.len.toNat ≤ 65535 ∧ s.winEnd < s.cur.toNat + (minimalHeader s.len.toNat).length) := by decide
theorem witness_ScalarEncodesStoreImage :
    (Instr.tlvEu64 0x84).scalarEncode? = some (8, 0x84) ∧ (window 10).cur.toNat + (2 + 8) ≤ (window 10).winEnd ∧
    (window 9).winEnd < (window 9).cur.toNat + (2 + 8) := by decide
/-- The longest source that ends BUF and the empty string; one byte too many of each kind. -/
theorem witness_EstrStoresStringImage :
    (let s := { holding 65535 [0x41] with cur := 0, lim := 3 };
      s.len.toNat ≤ 65535 ∧ s.src.toNat + s.len.toNat ≤ Params.default.bufSize ∧
      s.cur.toNat + (0x80 :: (minimalHeader s.len.toNat ++ s.bytesAt s.src.toNat s.len.toNat)).length ≤ s.winEnd) ∧
    65535 < ({ window 3 with len := 65536 } : State).len.toNat ∧
    (let s := { State.reset with src := 65535, len := 2 };
      s.len.toNat ≤ 65535 ∧ Params.default.bufSize < s.src.toNat + s.len.toNat) ∧
    (let s := window 1;
      s.len.toNat ≤ 65535 ∧
      s.winEnd < s.cur.toNat + (0x80 :: (minimalHeader s.len.toNat ++ s.bytesAt s.src.toNat s.len.toNat)).length) := by
  decide
/-- The lengths at both ends of the three forms; a state that holds the header of the longest. -/
theorem witness_LengthHeaderRoundTrip :
    (∀ n ∈ [0, 127, 128, 255, 256, 65535], n ≤ 65535) ∧
    (let s := holding 0 [0x82, 0xFF, 0xFF];
      s.bytesAt 0 3 = [0x82, 0xFF, 0xFF] ∧ lenHdr 65535 = .ok [0x82, 0xFF, 0xFF] ∧ 0 + 3 ≤ s.winEnd) := by decide
theorem witness_TlvRoundTrip :
    ((Instr.tlvEu24 0x86).scalarEncode? = some (3, 0x86) ∧ (Instr.tlvPu24 0x86).scalarParse? = some (3, 0x86) ∧
      ∃ t, exec (.tlvEu24 0x86) { window 5 with valLo := 0xFFFFFFFF } = .next t ∧ t.res = resOk) ∧
    ∃ t, exec (.tlvEstr 0x80) { holding 0x40 [0x34, 0x32, 0x5F, 0x53, 0x31] with cur := 0, lim := 7 } = .next t ∧
      t.res = resOk :=
  ⟨⟨by decide, by decide, _, exec_after _ _, by decide⟩, _, exec_after _ _, by decide⟩

theorem witness_CrcCalcComputesSpan :
    (holding 65535 [0]).src.toNat + (holding 65535 [0]).len.toNat ≤ Params.default.bufSize ∧
    (let s := { State.reset with src := 65535, len := 2 }; Params.default.bufSize < s.src.toNat + s.len.toNat) := by decide
theorem witness_CrcGenStoresTrailer :
    (let s := { State.reset with src := 65530, len := 4 }; s.src.toNat + s.len.toNat + 2 ≤ Params.default.bufSize) ∧
    (let s := { State.reset with src := 65530, len := 5 }; Params.default.bufSize < s.src.toNat + s.len.toNat + 2) := by
  decide
theorem witness_CrcCheckComparesTrailer :
    (let s := { holding 65534 [0xFF, 0xFF] with len := 0 };
      s.src.toNat + s.len.toNat + 2 ≤ Params.default.bufSize ∧
      s.memRead (s.src.toNat + s.len.toNat) 2 = (crc16 Params.default (s.bytesAt s.src.toNat s.len.toNat)).toNat) ∧
    (let s := { holding 65534 [0xFF, 0xFE] with len := 0 };
      s.src.toNat + s.len.toNat + 2 ≤ Params.default.bufSize ∧
      s.memRead (s.src.toNat + s.len.toNat) 2 ≠ (crc16 Params.default (s.bytesAt s.src.toNat s.len.toNat)).toNat) ∧
    (let s := { State.reset with src := 65535 }; Params.default.bufSize < s.src.toNat + s.len.toNat + 2) := by decide
theorem witness_GeneratedCrcPassesCheck : ∃ t, exec .crcGen (holding 0 digits) = .next t ∧ t.res = resOk :=
  ⟨_, exec_after _ _, by decide +kernel⟩

/-- Sha80 with the shortest frame, None with the shortest frame, and each failing check one step past its bound. -/
theorem witness_SigGenStoresTrailer :
    (let s := { withJefe State.reset with sSigAlg := 1, len := 13, src := 65523, keyLen := 64 };
      sigAlgOf Params.default s.sSigAlg = some .sha80 ∧ SigAlg.sha80 ≠ .none ∧ 2 + SigAlg.sha80.trailerLen ≤ s.len.toNat ∧
      s.src.toNat + s.len.toNat ≤ Params.default.bufSize ∧ s.keyLen.toNat ≤ 64) ∧
    (let s := { State.reset with len := 2 };
      sigAlgOf Params.default s.sSigAlg = some .none ∧ 2 ≤ s.len.toNat ∧ s.src.toNat + s.len.toNat ≤ Params.default.bufSize) ∧
    sigAlgOf Params.default 6 = none ∧
    (sigAlgOf Params.default 1 = some .sha80 ∧ ({ State.reset with len := 12 } : State).len.toNat < 2 + SigAlg.sha80.trailerLen) ∧
    (let s := { State.reset with len := 13, src := 65524 };
      2 + SigAlg.sha80.trailerLen ≤ s.len.toNat ∧ Params.default.bufSize < s.src.toNat + s.len.toNat) ∧
    (let s := { State.reset with sSigAlg := 1, len := 13, keyLen := 65 };
      2 + SigAlg.sha80.trailerLen ≤ s.len.toNat ∧ s.src.toNat + s.len.toNat ≤ Params.default.bufSize ∧
      64 < s.keyLen.toNat) := by decide
/-- The signed frame of S3 and its changes: every clause past the operand checks (those are SIG.GEN's). -/
theorem witness_SigVerifyChecksTrailer :
    (let s := signed 0x85 0x5B;
      sigAlgOf Params.default s.sSigAlg = some .sha80 ∧ 2 + SigAlg.sha80.trailerLen ≤ s.len.toNat ∧
      s.src.toNat + s.len.toNat ≤ Params.default.bufSize ∧ s.byteAt 30 = 0x85 ∧ s.keyLen.toNat ≤ 64 ∧
      MacMatches s 0 30 .sha80) ∧
    (signed 0x84 0x5B).byteAt 30 ≠ 0x85 ∧
    (let s := { signed 0x85 0x5B with keyLen := 65 }; s.byteAt 30 = 0x85 ∧ 64 < s.keyLen.toNat) ∧
    (let s := signed 0x85 0x5A; ¬ MacMatches s 0 30 .sha80 ∧ s.config.getLsbD 0 = true) ∧
    (let s := { signed 0x85 0x5A with config := 0 };
      ¬ MacMatches s 0 30 .sha80 ∧ s.config.getLsbD 0 = false) ∧
    (sigAlgOf Params.default 0 = some .none ∧ 2 + SigAlg.none.trailerLen ≤ ({ State.reset with len := 2 } : State).len.toNat) := by
  decide +kernel
theorem witness_SignedFrameVerifies : ∃ t, exec .sigGen (signed 0 0) = .next t ∧ t.res = resOk :=
  ⟨_, exec_after _ _, by decide +kernel⟩
theorem witness_TrailerLengthCountsMarkerAndMac :
    sigAlgOf Params.default 1 = some .sha80 ∧ SigAlg.sha80 ≠ .none ∧ sigAlgOf Params.default 5 = some .aes128 ∧ SigAlg.aes128 ≠ .none := by decide

/-- TIMEBASE at both ends of its range and one past each, T_NS at its last value and one past it. -/
theorem witness_ToWireRoundsAndCarries :
    (let s := atTime 0 999999999;
      1 ≤ s.timebase.toNat ∧ s.timebase.toNat ≤ 16777216 ∧ s.tNs.toNat < 1000000000) ∧
    ({ State.reset with timebase := 0 } : State).timebase.toNat < 1 ∧
    16777216 < ({ State.reset with timebase := 16777217 } : State).timebase.toNat ∧
    1000000000 ≤ (atTime 0 1000000000).tNs.toNat := by decide
theorem witness_ToWireHpQuantisesToFrames :
    (let s := { atTime 0 999999999 with timebase := 1, fps := 1 };
      1 ≤ s.timebase.toNat ∧ s.timebase.toNat ≤ 16777216 ∧ s.tNs.toNat < 1000000000 ∧ 1 ≤ s.fps.toNat) ∧
    State.reset.fps = 0 ∧ ({ State.reset with timebase := 0 } : State).timebase.toNat < 1 ∧
    16777216 < ({ State.reset with timebase := 16777217 } : State).timebase.toNat ∧
    1000000000 ≤ (atTime 0 1000000000).tNs.toNat := by decide
theorem witness_FromWireMasksAndCarries :
    (1 ≤ State.reset.timebase.toNat ∧ State.reset.timebase.toNat ≤ 16777216) ∧
    ({ State.reset with timebase := 0 } : State).timebase.toNat < 1 ∧
    16777216 < ({ State.reset with timebase := 16777217 } : State).timebase.toNat := by decide
theorem witness_RefrTmPacksAndUnpacks : ∃ t, exec .timePackRt State.reset = .next t := ⟨_, exec_after _ _⟩
theorem witness_TimeRoundTripWithinOneUnit :
    (∃ t, exec .timeToWire (atTime 5 999999999) = .next t ∧ t.res = resOk) ∧
    (atTime 5 999999999).tqMask &&& 0x00FFFFFF = 0 :=
  ⟨⟨_, exec_after _ _, by decide⟩, by decide⟩
theorem witness_ComputedFractionsFitTwentyFourBits :
    ∃ t, exec .timeToWireHp { atTime 0 999999999 with fps := 65535 } = .next t ∧ t.res = resOk :=
  ⟨_, exec_after _ _, by decide⟩

theorem witness_DetectClassifiesFrame :
    (let s := holding 65534 [0xAA, 0x40];
      s.src.toNat + s.len.toNat ≤ Params.default.bufSize ∧ 2 ≤ s.len.toNat ∧ s.byteAt 65534 = Params.default.syncByte) ∧
    (let s := holding 0 [1, 0x40];
      2 ≤ s.len.toNat ∧ s.byteAt 0 ≠ Params.default.syncByte ∧ s.byteAt 1 = Params.default.cltpTag) ∧
    (let s := holding 0 [0xAA]; s.src.toNat + s.len.toNat ≤ Params.default.bufSize ∧ s.len.toNat < 2) ∧
    (let s := holding 0 [1, 2];
      2 ≤ s.len.toNat ∧ s.byteAt 0 ≠ Params.default.syncByte ∧ s.byteAt 1 ≠ Params.default.cltpTag) ∧
    (let s := holding 65535 [0xAA, 0x40]; Params.default.bufSize < s.src.toNat + s.len.toNat) := by decide
theorem witness_ParsePlainWritesHeaderRegisters : PlainFrame (holding 65522 (f14 0x30 14 0 0)) 14 := by
  constructor <;> decide +kernel

/-- The frame of program P3 with the key "Jefe": Sha80, its body byte at offset 50 as given (P3: 0x01). -/
def p3 (body : Byte) : State :=
  withJefe (holding 0 (
    [0x01, 0x40, 0xA2, 0x18, 0x80, 0x16, 0, 0, 0, 0x2E, 0, 0, 0, 0x2A, 0, 1] ++
    [0x11, 0x22, 0x33, 0x44, 0x55, 0x66, 0, 1, 1, 2, 3, 4, 0, 0, 0, 0x17] ++
    [0x82, 0, 0x40, 0, 0, 0x11, 0x60, 0x0F, 0x80, 1, 1, 0xA2, 0x0A, 0x30, 8, 0x82] ++
    [2, 0, body, 0x83, 2, 0, 5, 0x85, 0x0A, 0xDA, 0xE6, 0x73, 0x3E, 0, 0x2A, 0x38] ++ [0xF1, 0xAC]))

/-- An unsigned frame, P3's signed frame, and P3's frame after the change that IGNORE_SIG lets pass. -/
theorem witness_ParseSessionWritesHeaderRegisters :
    SessionFrame (holding 0 (f55 1 0xA2 0 0 0x82)) .none 55 ∧
    (SessionFrame (p3 1) .sha80 66 ∧ MacMatches (p3 1) 0 55 .sha80) ∧
    (SessionFrame (p3 3) .sha80 66 ∧ ¬ MacMatches (p3 3) 0 55 .sha80) := by
  refine ⟨?_, ⟨?_, by decide +kernel⟩, ⟨?_, by decide +kernel⟩⟩ <;>
    (constructor; · constructor <;> decide +kernel) <;> decide +kernel
theorem witness_ParseDefersUntilFrameArrives :
    (holding 0 [0xAA]).len.toNat < 2 ∧
    (let s := holding 0 (f14 0x30 14 0 0 |>.take 13);
      2 ≤ s.len.toNat ∧ s.len.toNat < 14 ∧ s.byteAt 0 = Params.default.syncByte) ∧
    (let s := holding 0 (f14 0x30 15 0 0);
      14 ≤ s.len.toNat ∧ s.byteAt 0 = Params.default.syncByte ∧
      (s.byteAt 1).extractLsb' 4 3 ∈ [Params.default.ftData, Params.default.ftCfg, Params.default.ftCmd] ∧ 15 = s.memRead 2 2 ∧
      0 + 15 ≤ Params.default.bufSize ∧ s.len.toNat < 15) ∧
    (let s := holding 0 ((f55 1 0xA2 0 0 0x82).take 25);
      2 ≤ s.len.toNat ∧ s.len.toNat < 26 ∧ s.byteAt 0 ≠ Params.default.syncByte ∧ s.byteAt 1 = Params.default.cltpTag) ∧
    (SessionStart (holding 0 ((f55 1 0xA2 0 0 0x82).take 54)) .none 55 ∧
      (holding 0 ((f55 1 0xA2 0 0 0x82).take 54)).len.toNat < 55) := by
  refine ⟨by decide, by decide, by decide +kernel, by decide, ?_, by decide⟩
  constructor <;> decide +kernel

/-- The checks before the whole session frame is asked for. -/
theorem witness_ParseRefusesBadHeaders_plain :
    Params.default.bufSize < (holding 65535 [0xAA, 0x40]).src.toNat + (holding 65535 [0xAA, 0x40]).len.toNat ∧
    (let s := holding 0 [1, 2]; 2 ≤ s.len.toNat ∧ s.byteAt 0 ≠ Params.default.syncByte ∧ s.byteAt 1 ≠ Params.default.cltpTag) ∧
    (let s := holding 0 (f14 0x10 14 0 0);
      14 ≤ s.len.toNat ∧ s.byteAt 0 = Params.default.syncByte ∧
      (s.byteAt 1).extractLsb' 4 3 ∉ [Params.default.ftData, Params.default.ftCfg, Params.default.ftCmd]) ∧
    (let s := holding 0 (f14 0x30 13 0 0);
      (s.byteAt 1).extractLsb' 4 3 ∈ [Params.default.ftData, Params.default.ftCfg, Params.default.ftCmd] ∧ s.memRead 2 2 < 14) ∧
    (let s := holding 65522 (f14 0x30 15 0 0);
      14 ≤ s.memRead (65522 + 2) 2 ∧ Params.default.bufSize < 65522 + s.memRead (65522 + 2) 2) ∧
    (let s := { holding 0 (f14 0x30 14 0 0) with timebase := 16777217 };
      14 ≤ s.memRead 2 2 ∧ 0 + s.memRead 2 2 ≤ Params.default.bufSize ∧ s.memRead 2 2 ≤ s.len.toNat ∧
      16777216 < s.timebase.toNat) := by decide +kernel
theorem witness_ParseRefusesBadHeaders_session :
    (let s := holding 0 ((f55 1 0xA1 0 0 0x82).take 26);
      26 ≤ s.len.toNat ∧ s.byteAt 0 ≠ Params.default.syncByte ∧ s.byteAt 1 = Params.default.cltpTag ∧ s.byteAt 2 ≠ 0xA2) ∧
    (let s := holding 0 ((f55 1 0xA2 0 0 0x82).set 3 0x19); s.byteAt 2 = 0xA2 ∧ s.byteAt 3 ≠ 0x18) ∧
    (let s := holding 0 ((f55 1 0xA2 0 0 0x82).set 22 3);
      s.byteAt 2 = 0xA2 ∧ s.byteAt 3 = 0x18 ∧ s.byteAt 22 ∉ Params.default.secCodes) ∧
    (let s := holding 0 (f55 1 0xA2 0 6 0x82);
      s.byteAt 2 = 0xA2 ∧ s.byteAt 3 = 0x18 ∧ s.byteAt 22 ∈ Params.default.secCodes ∧ sigAlgOf Params.default (s.byteAt 23) = none) ∧
    (let s := holding 0 (((f55 0 0xA2 0 0 0x82).set 8 0xFF).set 9 0xF8);
      sigAlgOf Params.default (s.byteAt 23) = some .none ∧
      65535 < (s.byteAt 0).toNat + s.memRead 6 4 + 8 + SigAlg.none.trailerLen) := by decide +kernel
/-- The payload end one below 32, then at 32, then at 33. -/
theorem witness_ParseRefusesBadHeaders_payload :
    SessionStart (holding 0 ((f55 1 0xA2 0 0 0x82).set 9 22)) .none 31 ∧
    (SessionStart (withJefe (holding 0 ((f55 1 0xA2 0 1 0x82).set 9 23))) .sha80 43 ∧
      (holding 0 ((f55 1 0xA2 0 1 0x82).set 9 23)).byteAt 32 ≠ 0x85) ∧
    (SessionStart { holding 0 ((f55 1 0xA2 0 1 0x85).set 9 23) with keyLen := 65 } .sha80 43 ∧
      (holding 0 ((f55 1 0xA2 0 1 0x85).set 9 23)).byteAt 32 = 0x85) ∧
    (SessionStart { withJefe (holding 0 ((f55 1 0xA2 0 1 0x85).set 9 23)) with config := 0 } .sha80 43 ∧
      ¬ MacMatches { withJefe (holding 0 ((f55 1 0xA2 0 1 0x85).set 9 23)) with config := 0 } 0 32 .sha80) ∧
    (SessionStart (holding 0 ((f55 1 0xA2 0 0 0x83).set 9 24)) .none 33 ∧
      (holding 0 ((f55 1 0xA2 0 0 0x83).set 9 24)).byteAt 32 ≠ 0x82) := by
  refine ⟨?_, ⟨?_, by decide +kernel⟩, ⟨?_, by decide +kernel⟩, ⟨?_, by decide +kernel⟩, ⟨?_, by decide +kernel⟩⟩ <;>
    constructor <;> decide +kernel

/-- After an accepted signature: a payload end of 32, one of 37, and the ASDU prefix's errors H33 to H37 with one
that ends at the SvPdu tag. -/
theorem witness_ParseRefusesBadHeaders_prefix :
    SessionStart (holding 0 ((f55 1 0xA2 0 0 0x82).set 9 23)) .none 32 ∧
    SessionStart (holding 0 ((f55 1 0xA2 0 0 0x82).set 9 28)) .none 37 ∧
    SessionStart (holding 0 ((f55 1 0xA2 0 0 0x82).set 9 29)) .none 38 ∧
    SessionStart (holding 0 (f55 1 0xA2 0 0 0x82)) .none 55 ∧
    (holding 0 ((f55 1 0xA2 0 0 0x82).set 9 29)).asduPrefixError? 0 38 = some (.protocol .truncated 0) ∧
    (holding 0 ((f55 1 0xA2 0 0 0x82).set 38 0x61)).asduPrefixError? 0 55 = some (.protocol .unexpectedTag 0x61) ∧
    (holding 0 ((f55 1 0xA2 0 0 0x82).set 41 0)).asduPrefixError? 0 55 = some (.protocol .lengthTooShort 0) ∧
    (holding 0 ((f55 1 0xA2 0 0 0x82).set 42 0)).asduPrefixError? 0 55 = some (.protocol .emptyAsduSequence 0) ∧
    (holding 0 ((f55 1 0xA2 0 0 0x82).set 43 0xA3)).asduPrefixError? 0 55 = some (.protocol .unexpectedTag 0xA3) ∧
    (holding 0 ((f55 1 0xA2 0 0 0x82).set 9 30)).asduPrefixError? 0 39 = some (.protocol .truncated 0) := by
  refine ⟨?_, ?_, ?_, ?_, ?_⟩
  on_goal 5 => decide +kernel
  all_goals constructor <;> decide +kernel

theorem witness_GenPlainStoresHeader :
    (let s := { atTime 0 999999999 with src := 65522, hFrameLen := 14, hType := 4 };
      s.src.toNat + 14 ≤ Params.default.bufSize ∧ s.hType ∈ [Params.default.ftData, Params.default.ftCfg, Params.default.ftCmd] ∧
      14 ≤ s.hFrameLen.toNat ∧ 1 ≤ s.timebase.toNat ∧ s.timebase.toNat ≤ 16777216 ∧ s.tNs.toNat < 1000000000) ∧
    Params.default.bufSize < ({ State.reset with src := 65523 } : State).src.toNat + 14 ∧
    (5 : BitVec 3) ∉ [Params.default.ftData, Params.default.ftCfg, Params.default.ftCmd] ∧
    ({ State.reset with hFrameLen := 13 } : State).hFrameLen.toNat < 14 ∧
    ({ State.reset with timebase := 0 } : State).timebase.toNat < 1 ∧
    16777216 < ({ State.reset with timebase := 16777217 } : State).timebase.toNat ∧
    1000000000 ≤ (atTime 0 1000000000).tNs.toNat := by decide
/-- H45: the three-byte length forms. -/
theorem witness_GenSessionStoresHeader :
    let s := { State.reset with sAsduCount := 1, sBodyLen := 65400 };
    let l := s.sBodyLen.toNat;
    let sq := Params.default.tagSeqAsdu :: minimalHeader l;
    let inner := 3 + sq.length + l;
    let total := 38 + (Params.default.tagSvPdu :: minimalHeader inner).length + 3 + sq.length + l + SigAlg.none.trailerLen;
    s.sSecAlg ∈ Params.default.secCodes ∧ sigAlgOf Params.default s.sSigAlg = some .none ∧ s.sAsduCount ≠ 0 ∧ l ≤ 65535 ∧ inner ≤ 65535 ∧
    total ≤ 65535 ∧ s.sCltpLen.toNat + 8 + SigAlg.none.trailerLen ≤ total ∧
    s.src.toNat + total ≤ Params.default.bufSize := by decide +kernel
/-- H48, H43, H44, a total past 65535, H46 and H47, each with the checks before it passed. -/
theorem witness_GenSessionRefusesInOrder :
    (3 : Byte) ∉ Params.default.secCodes ∧ (0 : Byte) ∈ Params.default.secCodes ∧ sigAlgOf Params.default 6 = none ∧ sigAlgOf Params.default 0 = some .none ∧
    State.reset.sAsduCount = 0 ∧
    65535 < 3 + (1 + (minimalHeader 65535).length) + 65535 ∧
    (3 + (1 + (minimalHeader 65500).length) + 65500 ≤ 65535 ∧
      65535 < 38 + (1 + (minimalHeader 65507).length) + 65507 + SigAlg.none.trailerLen) ∧
    (let total := 38 + (1 + (minimalHeader 15).length) + 15 + SigAlg.none.trailerLen;
      total ≤ 65535 ∧ total < ({ State.reset with sCltpLen := 255 } : State).sCltpLen.toNat + 8 + 0 ∧
      1 + 8 + SigAlg.none.trailerLen ≤ total ∧ Params.default.bufSize < 65500 + total) := by decide +kernel
theorem witness_CmdCheckValidatesCommandFrame :
    Params.default.bufSize < (holding 65535 [0xAA, 0x40]).src.toNat + (holding 65535 [0xAA, 0x40]).len.toNat ∧
    (holding 0 ((c16 0xAA 0x41 16 0x58).take 13)).len.toNat < 14 ∧
    (holding 0 (c16 0x55 0x41 16 0x58)).byteAt 0 ≠ Params.default.syncByte ∧
    ((holding 0 (f14 0x30 14 0 0)).byteAt 1).extractLsb' 4 3 ≠ Params.default.ftCmd ∧
    (let s := holding 0 (c16 0xAA 0x41 17 0x58); 14 ≤ s.len.toNat ∧ s.len.toNat < s.memRead 2 2) ∧
    (let s := holding 0 (c16 0xAA 0x41 15 0x58); s.memRead 2 2 ≤ s.len.toNat ∧ s.memRead 2 2 < 16) ∧
    (let s := holding 0 (c16 0xAA 0x41 16 0x59);
      16 ≤ s.memRead 2 2 ∧ s.memRead 14 2 ≠ (crc16 Params.default (s.bytesAt 0 14)).toNat) ∧
    (let s := holding 0 (c16 0xAA 0x41 16 0x58);
      14 ≤ s.len.toNat ∧ s.byteAt 0 = Params.default.syncByte ∧ (s.byteAt 1).extractLsb' 4 3 = Params.default.ftCmd ∧
      s.memRead 2 2 ≤ s.len.toNat ∧ 16 ≤ s.memRead 2 2 ∧ s.memRead 14 2 = (crc16 Params.default (s.bytesAt 0 14)).toNat ∧
      1 ≤ s.timebase.toNat ∧ s.timebase.toNat ≤ 16777216) := by decide +kernel
theorem witness_GeneratedPlainHeaderParsesBack :
    (∃ t, exec .hdrGenPlain { atTime 5 0 with hFrameLen := 14 } = .next t ∧ t.res = resOk) ∧
    ({ atTime 5 0 with hFrameLen := 14 } : State).hFrameLen.toNat ≤ (14 : Word).toNat ∧
    ({ atTime 5 0 with hFrameLen := 14 } : State).src.toNat + (14 : Word).toNat ≤ Params.default.bufSize :=
  ⟨⟨_, exec_after _ _, by decide +kernel⟩, by decide, by decide⟩
/-- P3, by hand: the header operands, the body, and the two commands that complete. -/
theorem witness_GeneratedSessionFrameParsesBack :
    let s := withJefe { State.reset with sSigAlg := 1, sPktNum := 42, sAsduCount := 1, sBodyLen := 10 };
    let body : List Byte := [0x30, 8, 0x82, 2, 0, 1, 0x83, 2, 0, 5];
    (∃ t, exec .hdrGenSession s = .next t ∧ t.res = resOk ∧
      ∃ u, exec .sigGen { t.writeBytes (s.src.toNat + t.hHdrLen.toNat) body with
        len := t.hFrameLen.setWidth 32 } = .next u ∧ u.res = resOk) ∧
    body.length = s.sBodyLen.toNat ∧ s.sCltpLen ≠ Params.default.syncByte :=
  ⟨⟨_, exec_after _ _, by decide +kernel, _, exec_after _ _, by decide +kernel⟩, by decide, by decide⟩
/-- Two states that differ in the byte after the two available ones. -/
theorem witness_DecodersReadOnlyAvailableBytes :
    let s := holding 0 [0xAA, 0x40];
    let s' := { holding 0 [0xAA, 0x40, 7] with lim := 2, len := 2 };
    s' = { s with buf := s'.buf } ∧ (∀ o < s.len.toNat, s'.byteAt (s.src.toNat + o) = s.byteAt (s.src.toNat + o)) ∧
    ∃ t, exec .hdrDetect s = .next t :=
  ⟨rfl, by decide, _, exec_after _ _⟩

end Sys2Proof.Tests
end

