-- ==== Sys2Proof/Proofs/Memory.lean ====
section
/-! PROOFS. The rules of MemWrite (00_scope.md R10): what is read after it inside and outside the bytes it
writes. -/

namespace Sys2Proof.Machine

/-- Byte i of BE_n(v) is bits 8(n-1-i)+7 to 8(n-1-i) of v (R13). -/
theorem getElem_beBytes (n v i : Nat) (h : i < (beBytes n v).length) :
    (beBytes n v)[i] = BitVec.ofNat 8 (v >>> (8 * (n - 1 - i))) := by
  induction n generalizing i with
  | zero => simp at h
  | succ n ih =>
    cases i with
    | zero => simp [beBytes]
    | succ i =>
      have hi : i < (beBytes n v).length := by simpa using h
      have hexp : n + 1 - 1 - (i + 1) = n - 1 - i := by omega
      simpa only [beBytes, List.getElem_cons_succ, hexp] using ih i hi

/-- MemRead after MemWrite of the same span. -/
theorem State.memRead_memWrite_same (s : State) (a n v : Nat) :
    (s.memWrite a n v).memRead a n = v % 2 ^ (8 * n) := by
  have hbytes : (s.memWrite a n v).bytesAt a n = beBytes n v := by
    simpa only [State.memWrite, length_beBytes] using s.bytesAt_writeBytes_same a (beBytes n v)
  rw [State.memRead, hbytes, beNat_beBytes, Nat.pow_mul]

theorem State.byteAt_memWrite_inside (s : State) (a v : Nat) {n i : Nat} (hi : i < n) :
    (s.memWrite a n v).byteAt (a + i) = BitVec.ofNat 8 (v >>> (8 * (n - 1 - i))) := by
  have hlen : i < (beBytes n v).length := by simpa using hi
  rw [State.memWrite, State.byteAt_writeBytes_inside _ _ _ hlen, getElem_beBytes]

theorem State.byteAt_memWrite_outside (s : State) (v : Nat) {a n x : Nat} (hx : x < a ∨ a + n ≤ x) :
    (s.memWrite a n v).byteAt x = s.byteAt x :=
  s.byteAt_writeBytes_outside (beBytes n v) (by simpa using hx)

/-- Settles O23: the three rules of MemWrite, for every span and every value. -/
theorem memWriteReadsBack : Obligations.MemWriteReadsBack := by
  intro s a n v
  refine ⟨s.memRead_memWrite_same a n v, fun i hi => ?_, fun x hx => s.byteAt_memWrite_outside v hx⟩
  rw [s.byteAt_memWrite_inside a v hi, BitVec.toNat_ofNat, Nat.shiftRight_eq_div_pow]

end Sys2Proof.Machine
end

section
/-! PROOFS. What every command's rule has in common, said once over the commands: the state a completed rule leaves,
and the errors a rule can raise. -/

namespace Sys2Proof

/-- The rule of a command, its row of 30_encoding.md R84. -/
def Instr.rule : Instr → Machine.State → Except Machine.Stop Machine.State
  | .tlvPlen => Machine.plenBody
  | .tlvElen => Machine.elenBody
  | .tlvVtag tag => Machine.vtagBody tag
  | .tlvPbyte tag => Machine.parseScalarCommand 1 tag
  | .tlvPu16 tag => Machine.parseScalarCommand 2 tag
  | .tlvPu24 tag => Machine.parseScalarCommand 3 tag
  | .tlvPu32 tag => Machine.parseScalarCommand 4 tag
  | .tlvPu64 tag => Machine.parseScalarCommand 8 tag
  | .tlvPstr tag => Machine.pstrBody tag
  | .tlvEbyte tag => Machine.encodeScalarCommand 1 tag
  | .tlvEu16 tag => Machine.encodeScalarCommand 2 tag
  | .tlvEu24 tag => Machine.encodeScalarCommand 3 tag
  | .tlvEu32 tag => Machine.encodeScalarCommand 4 tag
  | .tlvEu64 tag => Machine.encodeScalarCommand 8 tag
  | .tlvEstr tag => Machine.estrBody tag
  | .tlvEbool => Machine.eboolBody
  | .crcCalc => Machine.crcCalcBody
  | .crcGen => Machine.crcGenBody
  | .crcCheck => Machine.crcCheckBody
  | .sigGen => Machine.sigGenBody
  | .sigVerify => Machine.sigVerifyBody
  | .timeToWire => Machine.toWireBody
  | .timeToWireHp => Machine.toWireHpBody
  | .timeFromWire => Machine.fromWireBody
  | .timePackRt => Machine.packRtBody
  | .timeUnpackRt => Machine.unpackRtBody
  | .hdrDetect => Machine.hdrDetectBody
  | .hdrParse => Machine.hdrParseBody
  | .hdrGenPlain => Machine.hdrGenPlainBody
  | .hdrGenSession => Machine.hdrGenSessionBody
  | .hdrCmdCheck => Machine.hdrCmdCheckBody

/-- The commands that take a TAG operand are TLV commands (30_encoding.md R83, R84). -/
theorem Instr.opcode_lt_of_tag {i : Instr} (h : i.tag?.isSome = true) : i.opcode.toNat < 0x20 := by
  revert h
  cases i <;> simp [Instr.tag?, Instr.opcode]

end Sys2Proof

namespace Sys2Proof.Machine

/-- Every command is its rule, run as one atomic step (20_memory.md R70). -/
theorem exec_eq_runCommand (i : Instr) (s : State) : exec i s = runCommand i.rule s := by
  cases i <;> rfl

/-- A command ends in one of the three outcomes of R236, as its rule answers. -/
theorem exec_cases {i : Instr} {s t : State} (h : exec i s = .next t) :
    (∃ u, i.rule s.begin = .ok u ∧ t = u.setRes resOk) ∨
    (∃ n, i.rule s.begin = .error (.need n) ∧ t = s.needState n) ∨
    (∃ e, i.rule s.begin = .error (.raise e) ∧ t = s.errorState e) := by
  rw [exec_eq_runCommand] at h
  rcases runCommand_cases i.rule s with ⟨u, hr, hu⟩ | ⟨n, hr, hu⟩ | ⟨e, hr, hu⟩ <;>
    rw [hu, Host.Outcome.next.injEq] at h
  · exact .inl ⟨u, hr, h.symm⟩
  · exact .inr (.inl ⟨n, hr, h.symm⟩)
  · exact .inr (.inr ⟨e, hr, h.symm⟩)

/-- A command that ends with RES = OK completed its rule. -/
theorem exec_ok {i : Instr} {s t : State} (h : exec i s = .next t) (hres : t.res = resOk) :
    ∃ u, i.rule s.begin = .ok u ∧ t = u.setRes resOk := by
  rcases exec_cases h with hok | ⟨n, -, rfl⟩ | ⟨e, -, rfl⟩
  · exact hok
  · rw [State.needState_res] at hres
    exact absurd hres (by decide)
  · rw [State.errorState_res] at hres
    exact absurd hres (by decide)

/-! ## What a completed rule leaves -/

/-- The registers only the host owns (10_state.md R41, R84), and the fields of the model's own. -/
structure HostOwned where
  lim : Word
  src : Word
  len : Word
  config : BitVec 6
  timebase : Word
  fps : BitVec 16
  tqMask : Word
  sBodyLen : Word
  keyLen : BitVec 7
  key : Vector Word 16
  params : Params
  pending : List HostEvent
  readData : Word
  resets : Nat

/-- What the host-owned registers of s hold. -/
def State.hostOwned (s : State) : HostOwned where
  lim := s.lim
  src := s.src
  len := s.len
  config := s.config
  timebase := s.timebase
  fps := s.fps
  tqMask := s.tqMask
  sBodyLen := s.sBodyLen
  keyLen := s.keyLen
  key := s.key
  params := s.params
  pending := s.pending
  readData := s.readData
  resets := s.resets

/-- t's BUF is s's BUF with at most one byte string stored, inside BUF_SIZE. -/
def StoredInBuf (s t : State) : Prop :=
  ∃ a bs, a + bs.length ≤ s.params.bufSize ∧ t.buf = Memory.writeBytes s.buf a bs

theorem storedInBuf_of_buf_eq {s t : State} (h : t.buf = s.buf) : StoredInBuf s t := ⟨0, [], Nat.zero_le _, h⟩

/-- H_HDRLEN and HDRLEN_VALID are both as they were, or set together to a header length (10_state.md R52). -/
def HdrLenKeptOrSet (s t : State) : Prop :=
  (t.hdrLenValid = s.hdrLenValid ∧ t.hHdrLen = s.hHdrLen) ∨ (t.hdrLenValid = true ∧ 14 ≤ t.hHdrLen.toNat)

/-- What a rule of the command i leaves when it completes, from the state s it started in. -/
structure Completed (i : Instr) (s t : State) : Prop where
  hostOwned : t.hostOwned = s.hostOwned
  err : t.err = s.err
  need : t.need = s.need
  buf : StoredInBuf s t
  hdrLen : HdrLenKeptOrSet s t
  cur : 0x20 ≤ i.opcode.toNat → t.cur = s.cur

/-- A TLV command that stores nothing and writes CUR and its result registers. -/
theorem completed_tlvParse {i : Instr} {s t : State} (hi : i.opcode.toNat < 0x20)
    (h : t = { s with valLo := t.valLo, valHi := t.valHi, rlen := t.rlen, raddr := t.raddr, cur := t.cur }) :
    Completed i s t := by
  rw [h]
  exact ⟨rfl, rfl, rfl, storedInBuf_of_buf_eq rfl, .inl ⟨rfl, rfl⟩, fun hn => absurd hi (Nat.not_lt.2 hn)⟩

/-- A TLV command that stores an image inside its window and moves CUR. -/
theorem completed_tlvEncode {i : Instr} {s t : State} (hi : i.opcode.toNat < 0x20)
    (h : ∃ img, s.cur.toNat + img.length ≤ s.winEnd ∧ t = { s.writeBytes s.cur.toNat img with cur := t.cur }) :
    Completed i s t := by
  obtain ⟨img, hwin, ht⟩ := h
  rw [ht]
  exact ⟨rfl, rfl, rfl, ⟨_, img, Nat.le_trans hwin s.winEnd_le, rfl⟩, .inl ⟨rfl, rfl⟩,
    fun hn => absurd hi (Nat.not_lt.2 hn)⟩

/-- A command whose results are the registers of the checksum and time units and H_FORMAT. -/
theorem completed_registers {i : Instr} {s t : State}
    (h : t = { s with
      crc := t.crc, wSoc := t.wSoc, wFrac := t.wFrac, tSec := t.tSec, tNs := t.tNs, valHi := t.valHi, valLo := t.valLo,
      tq := t.tq, hFormat := t.hFormat }) : Completed i s t := by
  rw [h]
  exact ⟨rfl, rfl, rfl, storedInBuf_of_buf_eq rfl, .inl ⟨rfl, rfl⟩, fun _ => rfl⟩

/-- CRC.GEN and SIG.GEN: a trailer stored in BUF. -/
theorem completed_trailer {i : Instr} {s t : State}
    (h : ∃ a bs, a + bs.length ≤ s.params.bufSize ∧ t = { s.writeBytes a bs with crc := t.crc }) :
    Completed i s t := by
  obtain ⟨a, bs, hb, ht⟩ := h
  rw [ht]
  exact ⟨rfl, rfl, rfl, ⟨a, bs, hb, rfl⟩, .inl ⟨rfl, rfl⟩, fun _ => rfl⟩

theorem completed_sigVerify {i : Instr} {s t : State} (h : ∃ f, t = s.setSigFail f) : Completed i s t := by
  obtain ⟨f, rfl⟩ := h
  exact ⟨rfl, rfl, rfl, storedInBuf_of_buf_eq rfl, .inl ⟨s.setSigFail_hdrLenValid f, rfl⟩, fun _ => rfl⟩

/-- The register writes of a plain header parse (R203). -/
theorem completed_plainHeader (i : Instr) (s : State) (b flen : Nat) : Completed i s (writePlainHeader s b flen) := by
  have hlen : 14 ≤ (14 : BitVec 16).toNat := by decide
  obtain ⟨_, _, _, _, _, _, _, _, _, _, h⟩ := writePlainHeader_frame s b flen
  rw [h]
  exact ⟨rfl, rfl, rfl, storedInBuf_of_buf_eq rfl, .inr ⟨s.setHdrLenValid_hdrLenValid true, hlen⟩, fun _ => rfl⟩

theorem Completed.withCrc {i : Instr} {s t : State} (h : Completed i s t) (c : BitVec 16) :
    Completed i s { t with crc := c } :=
  ⟨h.hostOwned, h.err, h.need, h.buf, h.hdrLen, h.cur⟩

/-- The header length a session parse reads is past the 38 fixed bytes and below the frame length (R209, R213). -/
theorem parseSession_hdrLen {s : State} {b a : Nat} {g : SessionHeader} (h : parseSession s b a = .ok g) :
    14 ≤ g.hdrLen ∧ g.hdrLen ≤ 65535 := by
  obtain ⟨alg, total, sf, -, hp, -, -, -, hasdu, rfl⟩ := parseSession_eq_ok_iff.1 h
  obtain ⟨-, -, hlen, -, -, hfin, -⟩ := parseAsduPrefix_eq_ok_iff.1 hasdu
  have hlow := hp.lengthLow
  have hbody := s.bodyAt_ge b
  show 14 ≤ s.bodyAt b - b ∧ s.bodyAt b - b ≤ 65535
  omega

theorem completed_sessionHeader (i : Instr) {s : State} {b a : Nat} {g : SessionHeader}
    (h : parseSession s b a = .ok g) : Completed i s (writeSessionHeader s g) := by
  obtain ⟨hlow, hhigh⟩ := parseSession_hdrLen h
  have hvalid : (writeSessionHeader s g).hdrLenValid = true :=
    ((s.setHdrLenValid true).setSigFail_hdrLenValid g.sigFail).trans (s.setHdrLenValid_hdrLenValid true)
  have hlen : 14 ≤ (BitVec.ofNat 16 g.hdrLen).toNat := by
    rw [BitVec.toNat_ofNat]
    omega
  exact ⟨rfl, rfl, rfl, storedInBuf_of_buf_eq rfl, .inr ⟨hvalid, hlen⟩, fun _ => rfl⟩

theorem completed_hdrParse {i : Instr} {s t : State} (h : hdrParseBody s = .ok t) : Completed i s t := by
  rcases hdrParseBody_cases h with rfl | ⟨g, hg, rfl⟩
  · exact completed_plainHeader i s _ _
  · exact completed_sessionHeader i hg

theorem completed_hdrGenPlain {i : Instr} {s t : State} (h : hdrGenPlainBody s = .ok t) : Completed i s t := by
  have hlen : 14 ≤ (14 : BitVec 16).toNat := by decide
  obtain ⟨img, hb, -, ht⟩ := hdrGenPlainBody_frame h
  rw [ht]
  exact ⟨rfl, rfl, rfl, ⟨_, img, hb, rfl⟩, .inr ⟨State.setHdrLenValid_hdrLenValid _ true, hlen⟩, fun _ => rfl⟩

theorem completed_hdrGenSession {i : Instr} {s t : State} (h : hdrGenSessionBody s = .ok t) : Completed i s t := by
  obtain ⟨img, alg, total, ho, -, hb, ht⟩ := hdrGenSessionBody_frame h
  have hlen : 14 ≤ (BitVec.ofNat 16 (genHdrLen s.params s.sBodyLen.toNat)).toNat := by
    have htotal := ho.length
    have hlow := ho.lengthLow
    have hdef : genHdrLen s.params s.sBodyLen.toNat = 38 + (svHeader s.params s.sBodyLen.toNat).length + 3 +
      (seqHeader s.params s.sBodyLen.toNat).length := rfl
    rw [BitVec.toNat_ofNat]
    omega
  rw [ht]
  exact ⟨rfl, rfl, rfl, ⟨_, img, hb, rfl⟩, .inr ⟨State.setHdrLenValid_hdrLenValid _ true, hlen⟩, fun _ => rfl⟩

theorem completed_hdrCmdCheck {i : Instr} {s t : State} (h : hdrCmdCheckBody s = .ok t) : Completed i s t := by
  rw [hdrCmdCheckBody_frame h]
  exact (completed_plainHeader i s _ _).withCrc _

/-- What every command's rule leaves when it completes. -/
theorem rule_completed {i : Instr} {s t : State} (h : i.rule s = .ok t) : Completed i s t := by
  cases i with
  | tlvPlen => exact completed_tlvParse (by decide) (by rw [plenBody_frame h])
  | tlvElen => exact completed_tlvEncode (by decide) (elenBody_frame h)
  | tlvVtag _ => exact completed_tlvParse (Instr.opcode_lt_of_tag rfl) (by rw [vtagBody_frame h])
  | tlvPbyte _ | tlvPu16 _ | tlvPu24 _ | tlvPu32 _ | tlvPu64 _ =>
    exact completed_tlvParse (Instr.opcode_lt_of_tag rfl) (parseScalarCommand_frame h)
  | tlvPstr _ => exact completed_tlvParse (Instr.opcode_lt_of_tag rfl) (by rw [pstrBody_frame h])
  | tlvEbyte _ | tlvEu16 _ | tlvEu24 _ | tlvEu32 _ | tlvEu64 _ =>
    exact completed_tlvEncode (Instr.opcode_lt_of_tag rfl) (encodeScalarCommand_frame h)
  | tlvEstr _ => exact completed_tlvEncode (Instr.opcode_lt_of_tag rfl) (estrBody_frame h)
  | tlvEbool => cases h
  | crcCalc => exact completed_registers (by rw [crcCalcBody_frame h])
  | crcGen => exact completed_trailer (crcGenBody_frame h)
  | crcCheck => exact completed_registers (by rw [crcCheckBody_frame h])
  | sigGen =>
    obtain ⟨a, bs, hb, rfl⟩ := sigGenBody_frame h
    exact completed_trailer ⟨a, bs, hb, rfl⟩
  | sigVerify => exact completed_sigVerify (sigVerifyBody_frame h)
  | timeToWire => exact completed_registers (by rw [toWireBody_frame h])
  | timeToWireHp => exact completed_registers (by rw [toWireHpBody_frame h])
  | timeFromWire => exact completed_registers (by rw [fromWireBody_frame h])
  | timePackRt => exact completed_registers (by rw [packRtBody_frame h])
  | timeUnpackRt => exact completed_registers (by rw [unpackRtBody_frame h])
  | hdrDetect => exact completed_registers (by rw [hdrDetectBody_frame h])
  | hdrParse => exact completed_hdrParse h
  | hdrGenPlain => exact completed_hdrGenPlain h
  | hdrGenSession => exact completed_hdrGenSession h
  | hdrCmdCheck => exact completed_hdrCmdCheck h

/-! ## Which errors a rule can raise -/

theorem CmdError.listed_outOfBounds {l : List (Nat × Nat)} (h : (8, 0) ∈ l) : outOfBounds.Listed l :=
  listed_plain (k := .outOfBounds) h (by decide)

theorem CmdError.listed_badArgument {l : List (Nat × Nat)} (h : (10, 0) ∈ l) :
    (CmdError.plain .badArgument).Listed l :=
  listed_plain h (by decide)

/-- A protocol violation whose information byte the table R233 names. -/
theorem CmdError.listed_protocol {r : Reason} {l : List (Nat × Nat)}
    (h : (1, r.code.toNat) ∈ l ∧ (1, r.code.toNat) ∈ raisedCodes ∧ (1, r.code.toNat) ∈ namedInfoCodes) (x : Byte) :
    (CmdError.protocol r x).Listed l :=
  listed_named rfl rfl h.1 h.2.1 h.2.2

/-- A protocol violation with information byte 0. -/
theorem CmdError.listed_protocol_zero {r : Reason} {l : List (Nat × Nat)}
    (h : (1, r.code.toNat) ∈ l ∧ (1, r.code.toNat) ∈ raisedCodes) : (CmdError.protocol r 0).Listed l :=
  listed_zero rfl rfl rfl h.1 h.2

theorem CmdError.listed_missingSignatureTag {l : List (Nat × Nat)} (h : (4, 0) ∈ l) (x : Byte) :
    CmdError.Listed ⟨.missingSignatureTag, .none, x⟩ l :=
  listed_named (k := 4) (r := 0) rfl rfl h (by decide) (by decide)

section
open CmdError

theorem vtagBody_raises (tag : Byte) (s : State) : Raises (vtagBody tag s) (·.Listed [(8, 0), (1, 1)]) :=
  raises_bind (raises_validateTag (listed_outOfBounds (by decide))
    (listed_protocol (by decide))) fun _ => raises_pure

theorem parseScalarCommand_raises (w : Nat) (tag : Byte) (s : State) :
    Raises (parseScalarCommand w tag s) (·.Listed [(8, 0), (1, 1), (1, 2)]) :=
  raises_bind (raises_parseScalar (listed_outOfBounds (by decide))
    (listed_protocol (by decide))
    (listed_protocol (by decide))) fun _ => raises_pure

theorem pstrBody_raises (tag : Byte) (s : State) : Raises (pstrBody tag s) (·.Listed [(8, 0), (1, 1)]) :=
  raises_bind (raises_parseString (listed_outOfBounds (by decide))
    (listed_protocol (by decide))) fun _ => raises_pure

theorem encodeScalarCommand_raises (w : Nat) (tag : Byte) (s : State) :
    Raises (encodeScalarCommand w tag s) (·.Listed [(8, 0)]) :=
  raises_emitAtCur (CmdError.listed_outOfBounds (by decide))

theorem elenBody_raises (s : State) : Raises (elenBody s) (·.Listed [(6, 0), (8, 0)]) :=
  raises_bind (raises_lenHdr (listed_plain (by decide) (by decide))) fun _ =>
    raises_emitAtCur (listed_outOfBounds (by decide))

theorem estrBody_raises (tag : Byte) (s : State) : Raises (estrBody tag s) (·.Listed [(6, 0), (8, 0)]) :=
  raises_bind (raises_raiseIf (listed_plain (by decide) (by decide))) fun _ =>
    raises_bind (raises_raiseIf (listed_outOfBounds (by decide))) fun _ =>
      raises_emitAtCur (listed_outOfBounds (by decide))

theorem crcCheckBody_raises (s : State) : Raises (crcCheckBody s) (·.Listed [(8, 0), (2, 0)]) :=
  raises_bind (raises_raiseIf (listed_outOfBounds (by decide))) fun _ =>
    raises_bind (raises_raiseIf (listed_plain (by decide) (by decide))) fun _ => raises_pure

theorem sigGenBody_raises (s : State) : Raises (sigGenBody s) (·.Listed [(1, 7), (10, 0), (8, 0)]) :=
  raises_bind (raises_sigOperands (listed_protocol (by decide) _)
    (listed_badArgument (by decide)) (listed_outOfBounds (by decide))) fun _ =>
    raises_ite raises_pure (raises_bind (raises_raiseIf (listed_badArgument (by decide))) fun _ => raises_pure)

theorem sigVerifyBody_raises (s : State) :
    Raises (sigVerifyBody s) (·.Listed [(1, 7), (10, 0), (8, 0), (4, 0), (3, 0)]) :=
  raises_bind (raises_sigOperands (listed_protocol (by decide) _)
    (listed_badArgument (by decide)) (listed_outOfBounds (by decide))) fun _ =>
    raises_bind (raises_sigCheck (listed_missingSignatureTag (by decide)) (listed_badArgument (by decide))
      (listed_plain (by decide) (by decide))) fun _ => raises_pure

/-- A rule that checks TIMEBASE and T_NS and then completes (R171, R177, R178). -/
theorem raises_timeChecks {tb ns : Nat} {t : State} :
    Raises (do checkTimebase tb; checkNanos ns; return t) (·.Listed [(10, 0)]) :=
  raises_bind (raises_checkTimebase (CmdError.listed_badArgument (by decide))) fun _ =>
    raises_bind (raises_checkNanos (CmdError.listed_badArgument (by decide))) fun _ => raises_pure

theorem hdrParseBody_raises (s : State) : Raises (hdrParseBody s) (·.Listed (errorsOf .hdrParse)) := by
  refine raises_bind (raises_raiseIf (listed_outOfBounds (by decide))) fun _ =>
    raises_bind (raises_detect (listed_protocol (by decide) _)) fun fmt => ?_
  cases fmt with
  | plain =>
    exact raises_parsePlain (listed_protocol (by decide))
      (listed_protocol_zero (by decide)) (listed_plain (by decide) (by decide))
      (listed_badArgument (by decide))
  | session =>
    exact raises_bind (raises_parseSession
      (listed_protocol (by decide)) (listed_protocol (by decide)) (listed_protocol (by decide))
      (listed_protocol (by decide)) (listed_plain (by decide) (by decide)) (listed_protocol_zero (by decide))
      (listed_missingSignatureTag (by decide)) (listed_badArgument (by decide)) (listed_plain (by decide) (by decide))
      (listed_protocol (by decide)) (listed_protocol (by decide)) (listed_protocol (by decide))
      (listed_protocol_zero (by decide))) fun _ => raises_pure

theorem hdrGenPlainBody_raises (s : State) : Raises (hdrGenPlainBody s) (·.Listed [(8, 0), (1, 10), (10, 0)]) :=
  raises_bind (raises_raiseIf (listed_outOfBounds (by decide))) fun _ =>
    raises_bind (raises_raiseIf (listed_protocol (by decide) _)) fun _ =>
    raises_bind (raises_raiseIf (listed_badArgument (by decide))) fun _ =>
    raises_bind (raises_checkTimebase (listed_badArgument (by decide))) fun _ =>
    raises_bind (raises_checkNanos (listed_badArgument (by decide))) fun _ => raises_pure

theorem hdrGenSessionBody_raises (s : State) :
    Raises (hdrGenSessionBody s) (·.Listed (errorsOf .hdrGenSession)) :=
  raises_bind (raises_genSession (listed_protocol (by decide))
    (listed_protocol (by decide)) (listed_protocol_zero (by decide))
    (listed_plain (by decide) (by decide)) (listed_plain (by decide) (by decide))
    (listed_badArgument (by decide))) fun _ =>
    raises_bind (raises_raiseIf (listed_outOfBounds (by decide))) fun _ => raises_pure

theorem hdrCmdCheckBody_raises (s : State) : Raises (hdrCmdCheckBody s) (·.Listed (errorsOf .hdrCmdCheck)) :=
  raises_bind (raises_raiseIf (listed_outOfBounds (by decide))) fun _ =>
    raises_bind (raises_raiseIf (listed_protocol_zero (by decide))) fun _ =>
    raises_bind (raises_raiseIf (listed_protocol (by decide) _)) fun _ =>
    raises_bind (raises_raiseIf (listed_protocol (by decide) _)) fun _ =>
    raises_bind (raises_raiseIf (listed_protocol_zero (by decide))) fun _ =>
    raises_bind (raises_raiseIf (listed_protocol_zero (by decide))) fun _ =>
    raises_bind (raises_raiseIf (listed_plain (by decide) (by decide))) fun _ =>
    raises_bind (raises_checkTimebase (listed_badArgument (by decide))) fun _ => raises_pure

/-- A command raises only the errors of its row of the table R234, with the information byte R233 gives them. -/
theorem rule_raises_listed (i : Instr) (s : State) : Raises (i.rule s) (·.Listed (errorsOf i)) := by
  cases i with
  | tlvPlen => exact raises_bind (raises_parseTagLength (listed_outOfBounds (by decide))) fun _ => raises_pure
  | tlvElen => exact elenBody_raises s
  | tlvVtag tag => exact vtagBody_raises tag s
  | tlvPbyte tag | tlvPu16 tag | tlvPu24 tag | tlvPu32 tag | tlvPu64 tag => exact parseScalarCommand_raises _ tag s
  | tlvPstr tag => exact pstrBody_raises tag s
  | tlvEbyte tag | tlvEu16 tag | tlvEu24 tag | tlvEu32 tag | tlvEu64 tag => exact encodeScalarCommand_raises _ tag s
  | tlvEstr tag => exact estrBody_raises tag s
  | tlvEbool => exact raises_error (listed_plain (by decide) (by decide))
  | crcCalc | crcGen =>
    exact raises_bind (raises_raiseIf (listed_outOfBounds (by decide))) fun _ => raises_pure
  | crcCheck => exact crcCheckBody_raises s
  | sigGen => exact sigGenBody_raises s
  | sigVerify => exact sigVerifyBody_raises s
  | timeToWire | timeToWireHp => exact raises_timeChecks
  | timeFromWire => exact raises_bind (raises_checkTimebase (listed_badArgument (by decide))) fun _ => raises_pure
  | timePackRt | timeUnpackRt => exact raises_ok
  | hdrDetect =>
    exact raises_bind (raises_raiseIf (listed_outOfBounds (by decide))) fun _ =>
      raises_bind (raises_detect (listed_protocol (by decide) _)) fun _ => raises_pure
  | hdrParse => exact hdrParseBody_raises s
  | hdrGenPlain => exact hdrGenPlainBody_raises s
  | hdrGenSession => exact hdrGenSessionBody_raises s
  | hdrCmdCheck => exact hdrCmdCheckBody_raises s

end

end Sys2Proof.Machine
end

section
/-! PROOFS. The legal states and the registers of 10_state.md: what every step keeps, what commands leave to the host,
what the host reads back, and the fractions the time commands compute. -/

namespace Sys2Proof.Machine

/-! ## What one step can be -/

/-- A host event that ends without a command is a platform reset, a read, a write of a CSR, or a one-byte store inside
BUF_SIZE (20_memory.md R66, R69). -/
theorem hostEvent_done {s t : State} {ev : HostEvent} (h : hostEvent s ev = .done t) :
    t = platformResetState s ∨ (∃ v, t = { s with readData := v }) ∨ (∃ c v, t = Csr.write s v c) ∨
    (∃ off b, off + 1 ≤ s.params.bufSize ∧ t = s.writeBytes off [b]) := by
  cases ev with
  | platformReset => exact .inl (BusResult.done.inj h).symm
  | read win off n =>
    rw [hostEvent] at h
    split at h
    · exact .inr (.inl ⟨_, (BusResult.done.inj h).symm⟩)
    · cases h
  | write win off n v =>
    rw [hostEvent] at h
    split at h
    case isFalse => cases h
    case isTrue hadm =>
      split at h
      · cases h
      · rw [BusResult.done.injEq] at h
        subst h
        cases win with
        | csr => exact .inr (.inr (.inl ⟨_, _, rfl⟩))
        | buf =>
          have hoff : n = 1 ∧ off < s.params.bufSize := by simpa [HostEvent.admitted] using hadm
          exact .inr (.inr (.inr ⟨_, _, hoff.2, rfl⟩))

/-- A host event that starts a command has changed nothing yet (20_memory.md R70). -/
theorem hostEvent_command {s t : State} {ev : HostEvent} {w : Word} (h : hostEvent s ev = .command w t) : t = s := by
  by_cases hadm : ev.admitted s.params = true
  · rcases hostEvent_of_admitted hadm with ⟨u, hu, -⟩ | ⟨v, hv⟩
    · rw [hu] at h
      cases h
    · rw [hv] at h
      exact (BusResult.command.inj h).2.symm
  · obtain ⟨f, hf⟩ := hostEvent_of_not_admitted (Bool.eq_false_iff.2 hadm)
    rw [hf] at h
    cases h

/-- A step that answers a state is idle, ends the oldest host event, or runs the command word that event writes. -/
theorem step_cases {s t : State} (h : step s = .next t) :
    (s.pending = [] ∧ t = s) ∨
    ∃ ev rest, s.pending = ev :: rest ∧
      (hostEvent { s with pending := rest } ev = .done t ∨
        ∃ w, hostEvent { s with pending := rest } ev = .command w { s with pending := rest } ∧
          runWord w { s with pending := rest } = .next t) := by
  unfold step at h
  cases hp : s.pending with
  | nil =>
    rw [nextAction_nil hp] at h
    exact .inl ⟨rfl, (Host.Outcome.next.inj h).symm⟩
  | cons ev rest =>
    rw [nextAction_cons hp] at h
    refine .inr ⟨ev, rest, rfl, ?_⟩
    cases hev : hostEvent { s with pending := rest } ev with
    | done u =>
      rw [hev] at h
      exact .inl (congrArg _ (Host.Outcome.next.inj h))
    | command w u =>
      rw [hev] at h
      obtain rfl := hostEvent_command hev
      exact .inr ⟨w, rfl, h⟩
    | stuck f =>
      rw [hev] at h
      cases h

/-! ## Legal states -/

/-- Legality speaks of BUF, BUF_SIZE, STATUS, ERR and H_HDRLEN alone. -/
theorem State.Legal.congr {s t : State} (hs : s.Legal) (hbuf : t.buf = s.buf) (hparams : t.params = s.params)
    (hstatus : t.status = s.status) (herr : t.err = s.err) (hlen : t.hHdrLen = s.hHdrLen) : t.Legal := by
  have hres : t.res = s.res := by rw [State.res, hstatus, State.res]
  have hsig : t.sigFail = s.sigFail := by rw [State.sigFail, hstatus, State.sigFail]
  have hvalid : t.hdrLenValid = s.hdrLenValid := by rw [State.hdrLenValid, hstatus, State.hdrLenValid]
  exact {
    bufCanonical := hbuf ▸ hs.bufCanonical
    bufInRange := hbuf ▸ hparams ▸ hs.bufInRange
    resLegal := hres ▸ hs.resLegal
    sigFailOk := hsig ▸ hres ▸ hs.sigFailOk
    hdrLenReset := hvalid ▸ hlen ▸ hs.hdrLenReset
    hdrLenSet := hvalid ▸ hlen ▸ hs.hdrLenSet
    errLegal := herr ▸ hs.errLegal
    errRaised := hres ▸ herr ▸ hs.errRaised }

/-- The reset state is legal, for every choice of the parameters (R261). -/
theorem legal_resetWith (p : Params) : (State.resetWith p).Legal := by
  have hres : (State.resetWith p).res = resOk := rfl
  have hvalid : (State.resetWith p).hdrLenValid = false := show (0 : BitVec 4).getLsbD 3 = false by decide
  have herr : (State.resetWith p).err = 0 := rfl
  exact {
    bufCanonical := List.Pairwise.nil
    bufInRange := List.forall_mem_nil _
    resLegal := by rw [hres]; decide
    sigFailOk := fun _ => hres
    hdrLenReset := fun _ => rfl
    hdrLenSet := by simp [hvalid]
    errLegal := by rw [herr]; decide
    errRaised := fun h => absurd (hres.symm.trans h) (by decide) }

/-- Bytes stored inside BUF_SIZE keep BUF canonical and in range. -/
theorem State.Legal.storedInBuf {s t : State} (hs : s.Legal) (h : StoredInBuf s t) :
    Memory.wf t.buf ∧ Memory.inRange s.params.bufSize t.buf := by
  obtain ⟨a, bs, hb, ht⟩ := h
  rw [ht]
  exact ⟨Memory.wf_writeBytes a bs hs.bufCanonical, Memory.inRange_writeBytes hb hs.bufInRange⟩

theorem State.Legal.errorState {s : State} (hs : s.Legal) {e : CmdError} (he : legalErr e.word = true) :
    (s.errorState e).Legal where
  bufCanonical := hs.bufCanonical
  bufInRange := hs.bufInRange
  resLegal := by rw [State.errorState_res]; decide
  sigFailOk := by simp
  hdrLenReset := by rw [State.errorState_hdrLenValid]; exact hs.hdrLenReset
  hdrLenSet := by rw [State.errorState_hdrLenValid]; exact hs.hdrLenSet
  errLegal := he
  errRaised := fun _ => e.word_ne_zero

theorem State.Legal.needState {s : State} (hs : s.Legal) (n : Nat) : (s.needState n).Legal where
  bufCanonical := hs.bufCanonical
  bufInRange := hs.bufInRange
  resLegal := by rw [State.needState_res]; decide
  sigFailOk := by simp
  hdrLenReset := by rw [State.needState_hdrLenValid]; exact hs.hdrLenReset
  hdrLenSet := by rw [State.needState_hdrLenValid]; exact hs.hdrLenSet
  errLegal := hs.errLegal
  errRaised := fun h => absurd ((s.needState_res n).symm.trans h) (by decide)

/-- The OK outcome of a rule that completed from the start of a command in a legal state. -/
theorem State.Legal.completed {i : Instr} {s u : State} (hs : s.Legal) (h : Completed i s.begin u) :
    (u.setRes resOk).Legal := by
  have hparams : u.params = s.params := congrArg HostOwned.params h.hostOwned
  obtain ⟨hwf, hrange⟩ := hs.storedInBuf (t := u) h.buf
  have hdr : (u.hdrLenValid = false → u.hHdrLen = 0) ∧ (u.hdrLenValid = true → 14 ≤ u.hHdrLen.toNat) := by
    rcases h.hdrLen with ⟨hvalid, hlen⟩ | ⟨hvalid, hlen⟩
    · rw [hvalid, State.begin_hdrLenValid, hlen]
      exact ⟨hs.hdrLenReset, hs.hdrLenSet⟩
    · exact ⟨fun hf => absurd (hvalid.symm.trans hf) (by decide), fun _ => hlen⟩
  obtain ⟨hreset, hset⟩ := hdr
  exact {
    bufCanonical := hwf
    bufInRange := hparams.symm ▸ hrange
    resLegal := by rw [State.setRes_res]; decide
    sigFailOk := fun _ => State.setRes_res u resOk
    hdrLenReset := by rw [State.setRes_hdrLenValid]; exact hreset
    hdrLenSet := by rw [State.setRes_hdrLenValid]; exact hset
    errLegal := h.err.symm ▸ hs.errLegal
    errRaised := fun hr => absurd ((State.setRes_res u resOk).symm.trans hr) (by decide) }

/-- Every command keeps legal states, whatever its outcome. -/
theorem legal_exec {i : Instr} {s t : State} (hs : s.Legal) (h : exec i s = .next t) : t.Legal := by
  rcases exec_cases h with ⟨u, hr, rfl⟩ | ⟨n, -, rfl⟩ | ⟨e, hr, rfl⟩
  · exact hs.completed (rule_completed hr)
  · exact hs.needState n
  · exact hs.errorState (rule_raises_listed i s.begin e hr).2

/-- A write of any word to CMD keeps legal states: IllegalCommand is an error of the tables too (R82). -/
theorem legal_runWord {w : Word} {s t : State} (hs : s.Legal) (h : runWord w s = .next t) : t.Legal := by
  unfold runWord at h
  split at h
  · exact legal_exec hs h
  · rename_i e _
    rw [illegalCommand_eq, Host.Outcome.next.injEq] at h
    subst h
    cases e with
    | reservedBits => exact hs.errorState (by decide)
    | unknownOpcode opc =>
      have hl : CmdError.Listed ⟨.illegalCommand, .unknownOpcode, opc⟩ raisedCodes :=
        CmdError.listed_named (k := 9) (r := 2) rfl rfl (by decide) (by decide) (by decide)
      exact hs.errorState hl.2

/-- A host event that ends without a command leaves a legal state. -/
theorem legal_hostEvent {s t : State} {ev : HostEvent} (hs : s.Legal) (h : hostEvent s ev = .done t) : t.Legal := by
  rcases hostEvent_done h with rfl | ⟨v, rfl⟩ | ⟨c, v, rfl⟩ | ⟨off, b, hoff, rfl⟩
  · exact (legal_resetWith s.params).congr rfl rfl rfl rfl rfl
  · exact hs.congr rfl rfl rfl rfl rfl
  · obtain ⟨hstatus, herr, -, -, -, -, hlen, hbuf, -, -, -, hparams⟩ := Csr.write_keeps s v c
    exact hs.congr hbuf hparams hstatus herr hlen
  · obtain ⟨hwf, hrange⟩ := hs.storedInBuf (t := s.writeBytes off [b]) ⟨off, [b], hoff, rfl⟩
    exact { hs with bufCanonical := hwf, bufInRange := hrange }

/-- Settles O11: an idle step changes nothing, and every host event and every command word keeps legal states. -/
theorem stepKeepsLegalStates : Obligations.StepKeepsLegalStates := by
  intro s t hs h
  rcases step_cases h with ⟨-, rfl⟩ | ⟨ev, rest, -, hev⟩
  · exact hs
  · have hrest : State.Legal { s with pending := rest } := hs.congr rfl rfl rfl rfl rfl
    rcases hev with hdone | ⟨w, -, hrun⟩
    · exact legal_hostEvent hrest hdone
    · exact legal_runWord hrest hrun

/-! ## What commands leave to the host -/

/-- No command writes a register only the host owns, whatever its outcome (10_state.md R41, R84). -/
theorem exec_hostOwned {i : Instr} {s t : State} (h : exec i s = .next t) : t.hostOwned = s.hostOwned := by
  rcases exec_cases h with ⟨u, hr, rfl⟩ | ⟨n, -, rfl⟩ | ⟨e, -, rfl⟩
  · exact (rule_completed hr).hostOwned
  · rfl
  · rfl

/-- CUR moves only when a TLV command completes (R268). -/
theorem exec_cur {i : Instr} {s t : State} (h : exec i s = .next t) (hc : t.cur ≠ s.cur) :
    t.res = resOk ∧ i.opcode.toNat < 0x20 := by
  rcases exec_cases h with ⟨u, hr, rfl⟩ | ⟨n, -, rfl⟩ | ⟨e, -, rfl⟩
  · exact ⟨u.setRes_res resOk, Nat.not_le.1 fun hi => hc ((rule_completed hr).cur hi)⟩
  · exact absurd rfl hc
  · exact absurd rfl hc

/-- Settles O7. -/
theorem commandsLeaveHostOwnedRegisters : Obligations.CommandsLeaveHostOwnedRegisters := by
  intro i s t h
  have howned := exec_hostOwned h
  simp only [State.hostOwned, HostOwned.mk.injEq] at howned
  obtain ⟨hlim, hsrc, hlen, hconfig, htimebase, hfps, hmask, hbody, hkeyLen, hkey, hparams, hpending, hread,
    hresets⟩ := howned
  exact ⟨hlim, hsrc, hlen, hconfig, htimebase, hfps, hmask, hbody, hkeyLen, hkey, hpending, hread, hresets, hparams,
    exec_cur h⟩

/-- Settles O5: the decoded command runs in the state whose queue no longer holds the event. -/
theorem stepRunsTheDecodedCommand : Obligations.StepRunsTheDecodedCommand := by
  intro s w rest i hp hd _
  have hev : nextAction s = .command w { s with pending := rest } :=
    (nextAction_cons hp).trans (hostEvent_cmdWrite _ w)
  rw [step, hev]
  show runWord w _ = _
  rw [runWord, hd]

/-! ## What the host reads back from a CSR -/

/-- A register of n bits holds the low n bits of the word written to it (R25). -/
theorem setWidth_setWidth_word (v : Word) (n : Nat) :
    (v.setWidth n).setWidth 32 = BitVec.ofNat 32 (v.toNat % 2 ^ n) := by
  refine BitVec.eq_of_toNat_eq ?_
  rw [BitVec.toNat_setWidth, BitVec.toNat_setWidth, BitVec.toNat_ofNat]

/-- A RW CSR reads back what was written, in its width (R25, R69). -/
theorem Csr.read_write_same (s : State) (v : Word) {c : Csr} (h : c.access = .readWrite) :
    Csr.read (Csr.write s v c) c = BitVec.ofNat 32 (v.toNat % 2 ^ c.width) := by
  have hword : v = BitVec.ofNat 32 (v.toNat % 2 ^ 32) := by
    rw [← setWidth_setWidth_word v 32, BitVec.setWidth_eq, BitVec.setWidth_eq]
  cases c with
  | cmd | status | err | need | rlen | raddr | crc | hHdrLen | length | sTrailLen | reserved => cases h
  | config | fps | tq | hFormat | hType | hVersion | hFrameLen | hIdCode | sCltpLen | sVersion | sKeyTime1 | sSecAlg
  | sSigAlg | sSim | sAppId | sAsduLen | sAsduCount | keyLen => exact setWidth_setWidth_word v _
  | cur | lim | src | len | valLo | valHi | timebase | tqMask | tSec | tNs | wSoc | wFrac | hSoc | hFracSec | sSpduLen
  | sPktNum | sKeyTime0 | sKeyId | sPayLen | sBodyLen => exact hword
  | key k => exact (Vector.getElem_set_self k.isLt).trans hword

/-- A write of a CSR that is not RW stores nothing (R25, R59). -/
theorem Csr.write_of_not_readWrite (s : State) (v : Word) {c : Csr} (h : c.access ≠ .readWrite) :
    Csr.write s v c = s := by
  cases c <;> first | rfl | exact absurd rfl h

/-- A write of KEYk leaves every other key word as it was (R58). -/
theorem Csr.read_key_write_key (s : State) (v : Word) {k j : Fin 16} (h : j ≠ k) :
    Csr.read (Csr.write s v (.key k)) (.key j) = Csr.read s (.key j) :=
  Vector.getElem_set_ne k.isLt j.isLt fun hkj => h (Fin.ext hkj.symm)

/-- No write of one CSR changes what another one reads as, the two computed ones aside (R25, R52, R56). -/
theorem Csr.read_write_other (s : State) (v : Word) {c d : Csr} (h : d ≠ c) (hl : d ≠ .length) (ht : d ≠ .sTrailLen) :
    Csr.read (Csr.write s v c) d = Csr.read s d := by
  cases d with
  | length => exact absurd rfl hl
  | sTrailLen => exact absurd rfl ht
  | key j =>
    cases c with
    | key k => exact Csr.read_key_write_key s v fun hjk => h (congrArg Csr.key hjk)
    | _ => rfl
  | _ => cases c <;> first | rfl | exact absurd rfl h

/-- Settles O16. -/
theorem csrWriteThenRead : Obligations.CsrWriteThenRead := by
  intro s c v
  obtain ⟨-, -, -, -, -, -, -, hbuf, -, -, hresets, -⟩ := Csr.write_keeps s v c
  exact ⟨Csr.read_write_same s v, Csr.write_of_not_readWrite s v, fun d => Csr.read_write_other s v,
    fun a => congrFun (State.byteAt_congr hbuf hresets) a⟩

/-- Settles O17: the reserved offsets name the one register that stores nothing. -/
theorem reservedCsrsReadZeroAndIgnoreWrites : Obligations.ReservedCsrsReadZeroAndIgnoreWrites := by
  refine ⟨Csr.ofOffset_offset, fun off s v hlow _ => ?_⟩
  rw [Csr.ofOffset_reserved hlow]
  exact ⟨rfl, rfl⟩

/-- Settles O21: key byte i is part of KEY(i div 4), so only the four bytes with i div 4 = k change. -/
theorem keyRegistersHoldFourKeyBytes : Obligations.KeyRegistersHoldFourKeyBytes := by
  intro s k v
  have hset (i : Nat) : (Csr.write s v (.key k)).keyByte i =
      ((s.key.set k v)[i / 4]?.getD 0).extractLsb' (8 * (i % 4)) 8 := rfl
  constructor
  · intro j hj
    have hdiv : (4 * k.val + j) / 4 = k.val := by omega
    have hmod : (4 * k.val + j) % 4 = j := by omega
    rw [hset, hdiv, hmod, Vector.getElem?_set_self, Option.getD_some]
  · intro i _ hne
    rw [hset, Vector.getElem?_set_ne _ (Ne.symm hne), State.keyByte]

/-! ## The registers computed on every read -/

/-- The codes of the six signature algorithms differ, so each code names its algorithm (R6, R149). -/
theorem sigAlgOf_code (p : Params) :
    sigAlgOf p p.sigNone = some .none ∧ sigAlgOf p p.sigSha80 = some .sha80 ∧
    sigAlgOf p p.sigSha128 = some .sha128 ∧ sigAlgOf p p.sigSha256 = some .sha256 ∧
    sigAlgOf p p.sigAes64 = some .aes64 ∧ sigAlgOf p p.sigAes128 = some .aes128 := by
  have hdiff := p.sigCodesDiffer
  simp only [List.nodup_cons, List.mem_cons, List.not_mem_nil, or_false, not_or] at hdiff
  simp_all [sigAlgOf, eq_comm]

theorem State.trailLenValue_of {s : State} {code : Byte} {a : SigAlg} (hc : s.sSigAlg = code)
    (ha : sigAlgOf s.params code = some a) : s.trailLenValue = BitVec.ofNat 32 a.trailerLen := by
  rw [State.trailLenValue, hc, ha]

/-- S_TRAILLEN by the trailer table R151, all ones for a code that names no algorithm (R56). -/
theorem State.trailLenValue_eq (s : State) : s.trailLenValue =
    (if s.sSigAlg = s.params.sigNone then 0
     else if s.sSigAlg = s.params.sigAes64 then 9
     else if s.sSigAlg = s.params.sigSha80 then 11
     else if s.sSigAlg = s.params.sigSha128 ∨ s.sSigAlg = s.params.sigAes128 then 17
     else if s.sSigAlg = s.params.sigSha256 then 33
     else 0xFFFFFFFF) := by
  obtain ⟨hnone, hsha80, hsha128, hsha256, haes64, haes128⟩ := sigAlgOf_code s.params
  split_ifs with h0 h9 h11 h17 h33
  · exact State.trailLenValue_of h0 hnone
  · exact State.trailLenValue_of h9 haes64
  · exact State.trailLenValue_of h11 hsha80
  · rcases h17 with h | h
    · exact State.trailLenValue_of h hsha128
    · exact State.trailLenValue_of h haes128
  · exact State.trailLenValue_of h33 hsha256
  · have hillegal : sigAlgOf s.params s.sSigAlg = Option.none := by
      obtain ⟨h128, hA128⟩ := not_or.1 h17
      simp [sigAlgOf, h0, h9, h11, h128, hA128, h33]
    rw [State.trailLenValue, hillegal]

/-- Settles O19. -/
theorem computedRegistersReadAsStated : Obligations.ComputedRegistersReadAsStated := by
  intro s
  have hlength : Csr.read s .length = s.lengthValue.setWidth 32 := rfl
  refine ⟨s.trailLenValue_eq, fun hty => ?_, fun hty hv => ?_, fun hty hv => ?_⟩
  · rw [hlength, State.lengthValue, if_pos hty]
    decide
  · rw [hlength, State.lengthValue, if_neg (not_not.2 hty), if_pos (show s.hdrLenValid = true from hv)]
  · rw [hlength, State.lengthValue, if_neg (not_not.2 hty), if_neg (by rw [State.hdrLenValid, hv]; decide)]

/-! ## Computed fractions -/

/-- What TIME.TOWIRE's rule answers, and exactly when (R177). -/
theorem toWireBody_eq_ok_iff {s t : State} :
    toWireBody s = .ok t ↔ (1 ≤ s.timebase.toNat ∧ s.timebase.toNat ≤ 16777216) ∧ s.tNs.toNat < 1000000000 ∧
      t = s.setWire (toWire s.tSec.toNat s.tNs.toNat s.timebase.toNat) := by
  simp [toWireBody, Except.bind_eq_ok_iff, checkTimebase_eq_ok_iff, checkNanos_eq_ok_iff, eq_comm (a := t)]

/-- What TIME.TOWIREHP's rule answers, and exactly when (R178). -/
theorem toWireHpBody_eq_ok_iff {s t : State} :
    toWireHpBody s = .ok t ↔ (1 ≤ s.timebase.toNat ∧ s.timebase.toNat ≤ 16777216) ∧ s.tNs.toNat < 1000000000 ∧
      t = s.setWire (toWireAtRate s.tSec.toNat s.tNs.toNat s.timebase.toNat s.fps.toNat) := by
  simp [toWireHpBody, Except.bind_eq_ok_iff, checkTimebase_eq_ok_iff, checkNanos_eq_ok_iff, eq_comm (a := t)]

/-- A fraction below a legal timebase is stored in W_FRAC whole, and fits 24 bits (R173, R44). -/
theorem setWire_wFrac_lt (s : State) {w : WireTime} {tb : Nat} (htb : tb ≤ 16777216) (hw : w.frac < tb) :
    (s.setWire w).wFrac.toNat < tb ∧ (s.setWire w).wFrac.toNat < 2 ^ 24 := by
  have hfrac : (s.setWire w).wFrac.toNat = w.frac := by
    rw [State.setWire_wFrac, BitVec.toNat_ofNat]
    exact Nat.mod_eq_of_lt (by omega)
  rw [hfrac]
  omega

/-- Settles O48. -/
theorem computedFractionsFitTwentyFourBits : Obligations.ComputedFractionsFitTwentyFourBits := by
  intro i s t hi h hres
  obtain ⟨u, hr, rfl⟩ := exec_ok h hres
  rcases hi with rfl | rfl
  · obtain ⟨⟨hlow, hhigh⟩, hns, rfl⟩ := toWireBody_eq_ok_iff.1 hr
    exact setWire_wFrac_lt s.begin hhigh (toWire_frac_lt hlow hns)
  · obtain ⟨⟨hlow, hhigh⟩, hns, rfl⟩ := toWireHpBody_eq_ok_iff.1 hr
    exact setWire_wFrac_lt s.begin hhigh (toWireAtRate_frac_lt hlow hns)

end Sys2Proof.Machine
end

section
/-! PROOFS. The host's accesses and runs (20_memory.md R63, R66, R69, R70): which accesses stop, what an admitted one
does, runs over admitted queues, and big-endian fields read in parts. -/

namespace Sys2Proof.Machine

/-! ## One step on the oldest host event -/

section
variable {s : State} {ev : HostEvent} {rest : List HostEvent} (hp : s.pending = ev :: rest)
include hp

theorem step_of_done {t : State} (h : hostEvent { s with pending := rest } ev = .done t) : step s = .next t := by
  rw [step, nextAction_cons hp, h]

theorem step_of_command {w : Word} (h : hostEvent { s with pending := rest } ev =
    .command w { s with pending := rest }) : step s = runWord w { s with pending := rest } := by
  rw [step, nextAction_cons hp, h]

theorem step_of_stuck {f : Fault} (h : hostEvent { s with pending := rest } ev = .stuck f) : step s = .fault f := by
  rw [step, nextAction_cons hp, h]

end

/-- No command word touches the host's queue or the parameters (R70, R82). -/
theorem runWord_keeps {w : Word} {s t : State} (h : runWord w s = .next t) :
    t.pending = s.pending ∧ t.params = s.params := by
  unfold runWord at h
  split at h
  · have howned := exec_hostOwned h
    exact ⟨congrArg HostOwned.pending howned, congrArg HostOwned.params howned⟩
  · rw [illegalCommand_eq, Host.Outcome.next.injEq] at h
    subst h
    exact ⟨rfl, rfl⟩

/-- A step on an admitted event answers a state whose queue is the rest (R66, R70). -/
theorem step_of_admitted {s : State} {ev : HostEvent} {rest : List HostEvent} (hp : s.pending = ev :: rest)
    (h : ev.admitted s.params = true) : ∃ t, step s = .next t ∧ t.pending = rest ∧ t.params = s.params := by
  rcases hostEvent_of_admitted (s := { s with pending := rest }) h with ⟨t, ht, hpending, hparams⟩ | ⟨w, hw⟩
  · exact ⟨t, step_of_done hp ht, hpending, hparams⟩
  · obtain ⟨t, ht⟩ := runWord_next w { s with pending := rest }
    exact ⟨t, (step_of_command hp hw).trans ht, runWord_keeps ht⟩

/-- A step on an event that is not admitted stops (R66). -/
theorem step_of_not_admitted {s : State} {ev : HostEvent} {rest : List HostEvent} (hp : s.pending = ev :: rest)
    (h : ev.admitted s.params = false) : ∃ f, step s = .fault f := by
  obtain ⟨f, hf⟩ := hostEvent_of_not_admitted (s := { s with pending := rest }) h
  exact ⟨f, step_of_stuck hp hf⟩

/-! ## Runs -/

/-- An admitted queue never stops a step, and what the step leaves of it is admitted. -/
theorem step_keeps_queueAdmitted {s : State} (hs : s.queueAdmitted) : ∃ t, step s = .next t ∧ t.queueAdmitted := by
  cases hp : s.pending with
  | nil => exact ⟨s, by rw [step, nextAction_nil hp], hs⟩
  | cons ev rest =>
    obtain ⟨t, ht, hpending, hparams⟩ := step_of_admitted hp (hs ev (by rw [hp]; exact List.mem_cons_self))
    refine ⟨t, ht, fun e he => ?_⟩
    rw [hpending] at he
    rw [hparams]
    exact hs e (by rw [hp]; exact List.mem_cons_of_mem _ he)

theorem core_run_succ {s t : State} (h : step s = .next t) (n : Nat) :
    Sys2Proof.core.run (n + 1) s = Sys2Proof.core.run n t := by
  have hcore : Sys2Proof.core.step s = .next t := h
  simp only [Host.Core.run, hcore]

/-- A property under which a step never stops, and which the step keeps, holds along every run. -/
theorem run_of_invariant {P : State → Prop} (hstep : ∀ s, P s → ∃ t, step s = .next t ∧ P t) (n : Nat) {s : State}
    (hs : P s) : ∃ t : State, Sys2Proof.core.run n s = .next t ∧ P t := by
  induction n generalizing s with
  | zero => exact ⟨s, rfl, hs⟩
  | succ n ih =>
    obtain ⟨u, hu, hPu⟩ := hstep s hs
    obtain ⟨t, ht, hPt⟩ := ih hPu
    exact ⟨t, (core_run_succ hu n).trans ht, hPt⟩

/-- Settles O15, with the admitted queue as the invariant of the run. -/
theorem admittedRunsNeverStop : Obligations.AdmittedRunsNeverStop := fun n _ hs =>
  run_of_invariant (fun _ => step_keeps_queueAdmitted) n hs

/-! ## Which accesses stop -/

/-- The accesses that are not admitted: of a CSR other than one aligned word inside the window (R66, R74), of BUF other
than one byte below BUF_SIZE (R66). -/
theorem admitted_eq_false_iff (p : Params) (ev : HostEvent) : ev.admitted p = false ↔
    (∃ off n, (ev = .read .csr off n ∨ ∃ v, ev = .write .csr off n v) ∧ (n ≠ 4 ∨ off % 4 ≠ 0 ∨ 0x1000 ≤ off)) ∨
    (∃ off n, (ev = .read .buf off n ∨ ∃ v, ev = .write .buf off n v) ∧ (n ≠ 1 ∨ p.bufSize ≤ off)) := by
  have hcsr (off n : Nat) : (n == 4 && off % 4 == 0 && decide (off < 0x1000)) = false ↔
      n ≠ 4 ∨ off % 4 ≠ 0 ∨ 0x1000 ≤ off := by
    simp only [Bool.and_eq_false_iff, beq_eq_false_iff_ne, decide_eq_false_iff_not, Nat.not_lt, or_assoc]
  have hbuf (off n : Nat) : (n == 1 && decide (off < p.bufSize)) = false ↔ n ≠ 1 ∨ p.bufSize ≤ off := by
    simp only [Bool.and_eq_false_iff, beq_eq_false_iff_ne, decide_eq_false_iff_not, Nat.not_lt]
  cases ev with
  | platformReset => simp [HostEvent.admitted]
  | read win off n => cases win <;> simp [HostEvent.admitted, hcsr, hbuf]
  | write win off n v => cases win <;> simp [HostEvent.admitted, hcsr, hbuf]

/-- Settles O14: a step stops exactly when the oldest event is not admitted. -/
theorem hostAccessStopsExactlyWhenNotAdmitted : Obligations.HostAccessStopsExactlyWhenNotAdmitted := by
  intro s ev rest hp
  rw [← admitted_eq_false_iff]
  cases hadm : ev.admitted s.params with
  | false =>
    have hfault := step_of_not_admitted hp hadm
    exact ⟨iff_of_true hfault rfl, .inr hfault⟩
  | true =>
    obtain ⟨t, ht, -⟩ := step_of_admitted hp hadm
    exact ⟨by simp [ht], .inl ⟨t, ht⟩⟩

/-! ## What an admitted access does -/

theorem csr_admitted {off : Nat} (halign : off % 4 = 0) (hwin : off < 0x1000) (p : Params) :
    (HostEvent.read .csr off 4).admitted p = true ∧ ∀ v, (HostEvent.write .csr off 4 v).admitted p = true := by
  simp [HostEvent.admitted, halign, hwin]

theorem buf_admitted {off : Nat} {p : Params} (hoff : off < p.bufSize) :
    (HostEvent.read .buf off 1).admitted p = true ∧ ∀ v, (HostEvent.write .buf off 1 v).admitted p = true := by
  simp [HostEvent.admitted, hoff]

/-- An admitted read is over at once, with its value in readData (R69). -/
theorem hostEvent_read {s : State} {win : Window} {off n : Nat}
    (h : (HostEvent.read win off n).admitted s.params = true) :
    hostEvent s (.read win off n) = .done { s with readData := hostRead s win off } := if_pos h

/-- An admitted write that is not of CMD is over at once, with its value stored (R69). -/
theorem hostEvent_write {s : State} {win : Window} {off n : Nat} {v : Word}
    (h : (HostEvent.write win off n v).admitted s.params = true) (hcmd : ¬ (win = .csr ∧ Csr.ofOffset off = .cmd)) :
    hostEvent s (.write win off n v) = .done (hostStore s win off v) := (if_pos h).trans (if_neg hcmd)

/-- Settles O18. -/
theorem hostAccessesHaveNoSideEffect : Obligations.HostAccessesHaveNoSideEffect := by
  intro s rest off v
  refine ⟨fun hp halign hwin => ?_, fun hp hoff => ?_, fun hp halign hwin hne => ?_, fun hp => ?_, fun hp hoff => ?_⟩
  · exact step_of_done hp (hostEvent_read (csr_admitted halign hwin _).1)
  · exact step_of_done hp (hostEvent_read (buf_admitted hoff).1)
  · exact step_of_done hp
      (hostEvent_write ((csr_admitted halign hwin _).2 v) fun h => hne ((Csr.ofOffset_eq_cmd_iff halign).1 h.2))
  · exact step_of_command hp (hostEvent_cmdWrite _ v)
  · have hstep := step_of_done hp (hostEvent_write ((buf_admitted hoff).2 v) (by simp))
    exact ⟨_, hstep, rfl, storesAt_of_buf rfl rfl⟩

/-! ## Fields read in parts -/

/-- Settles O22: the bytes of the field are the bytes of its parts, and each of the n low bytes counts 2^8 (R10). -/
theorem memReadSplitsBigEndian : Obligations.MemReadSplitsBigEndian := by
  intro s a m n
  rw [State.memRead, State.bytesAt_append, beNat_append, State.length_bytesAt, Nat.pow_mul]
  rfl

end Sys2Proof.Machine
end

section
/-! PROOFS. The command word (30_encoding.md R81 to R88): decoding and encoding are inverse, what TAG and an illegal
word do, and which commands of the map store to BUF. -/

namespace Sys2Proof

/-! ## The assembler's words -/

/-- The fields of the word the assembler writes (R81, R88). -/
theorem splitWord_encode (i : Instr) : splitWord (encode i) = i.fields := splitWord_joinWord i.fields

/-- Settles O1: the decoder finds RSVD = 0, and the opcode with its TAG names the command. -/
theorem decodeInvertsEncode : Obligations.DecodeInvertsEncode := by
  intro i
  have hrsvd : (encode i).extractLsb' 16 16 = 0 := congrArg CmdFields.rsvd (splitWord_encode i)
  have htag : (encode i).extractLsb' 8 8 = i.tag?.getD 0 := congrArg CmdFields.tag (splitWord_encode i)
  have hopc : (encode i).extractLsb' 0 8 = i.opcode := congrArg CmdFields.opc (splitWord_encode i)
  refine decode_eq_ok_iff.2 ⟨hrsvd, ?_⟩
  rw [hopc, htag]
  exact commandOf_opcode i

/-! ## The TAG operand -/

/-- The commands with a TAG operand are TLV.VTAG to TLV.ESTR (R83). -/
theorem Instr.tag?_isSome_iff (i : Instr) :
    i.tag?.isSome = true ↔ 0x12 ≤ i.opcode.toNat ∧ i.opcode.toNat ≤ 0x1E := by
  cases i <;> simp [Instr.tag?, Instr.opcode]

/-- What a word that decodes holds: RSVD = 0, the command's opcode, and in TAG the command's operand or any value
(R82, R83). -/
theorem decode_ok_cases {w : Word} {i : Instr} (h : decode w = .ok i) :
    w.extractLsb' 16 16 = 0 ∧ i.opcode = w.extractLsb' 0 8 ∧
      (i.tag? = some (w.extractLsb' 8 8) ∨
        (i.tag? = none ∧ ∀ tag, commandOf (w.extractLsb' 0 8) tag = some i)) := by
  obtain ⟨hrsvd, hcmd⟩ := decode_eq_ok_iff.1 h
  exact ⟨hrsvd, commandOf_some hcmd⟩

/-- A word with RSVD = 0 that holds a command's opcode and its tag is the word the assembler writes (R81, R88). -/
theorem encode_eq_of_fields {w : Word} {i : Instr} (hrsvd : w.extractLsb' 16 16 = 0)
    (hopc : i.opcode = w.extractLsb' 0 8) (htag : i.tag? = some (w.extractLsb' 8 8)) : encode i = w := by
  have hfields : i.fields = splitWord w := by
    rw [Instr.fields, splitWord, hrsvd, hopc, htag, Option.getD_some]
  rw [encode, hfields, joinWord_splitWord]

/-- The mask 0xFFFF00FF keeps RSVD and OPC and clears TAG (R81). -/
theorem extractLsb'_and_tagMask (w : Word) :
    (w &&& 0xFFFF00FF).extractLsb' 16 16 = w.extractLsb' 16 16 ∧
    (w &&& 0xFFFF00FF).extractLsb' 0 8 = w.extractLsb' 0 8 := by
  have hhigh : (0xFFFF00FF : Word).extractLsb' 16 16 = BitVec.allOnes 16 := by decide
  have hlow : (0xFFFF00FF : Word).extractLsb' 0 8 = BitVec.allOnes 8 := by decide
  rw [BitVec.extractLsb'_and, BitVec.extractLsb'_and, hhigh, hlow, BitVec.and_allOnes, BitVec.and_allOnes]
  exact ⟨rfl, rfl⟩

/-- A command without a TAG operand is selected whatever TAG holds (R83). -/
theorem decode_of_tag_ignored {w v : Word} {i : Instr} (h : decode w = .ok i) (hnone : i.tag? = none)
    (hmask : v &&& 0xFFFF00FF = w &&& 0xFFFF00FF) : decode v = .ok i := by
  obtain ⟨hrsvd, -, htag | ⟨-, hany⟩⟩ := decode_ok_cases h
  · simp [hnone] at htag
  · obtain ⟨hwrsvd, hwopc⟩ := extractLsb'_and_tagMask w
    obtain ⟨hvrsvd, hvopc⟩ := extractLsb'_and_tagMask v
    have hopc : v.extractLsb' 0 8 = w.extractLsb' 0 8 := by rw [← hvopc, hmask, hwopc]
    refine decode_eq_ok_iff.2 ⟨?_, ?_⟩
    · rw [← hvrsvd, hmask, hwrsvd, hrsvd]
    · rw [hopc]
      exact hany _

/-- Settles O2. -/
theorem tagIsAnOperandExactlyWhereListed : Obligations.TagIsAnOperandExactlyWhereListed := by
  refine ⟨Instr.tag?_isSome_iff, fun w i h hsome => ?_, fun w v i => decode_of_tag_ignored⟩
  obtain ⟨hrsvd, hopc, htag | ⟨hnone, -⟩⟩ := decode_ok_cases h
  · exact ⟨htag, encode_eq_of_fields hrsvd hopc htag⟩
  · simp [hnone] at hsome

/-- Settles O4: all but one are the assembler's words, and TLV.PLEN ignores the TAG field of its word (R83). -/
theorem sampleCommandWordsDecode : Obligations.SampleCommandWordsDecode := by
  have hplen : decode 0x0000FF10 = .ok .tlvPlen :=
    decode_of_tag_ignored (decodeInvertsEncode .tlvPlen) rfl (by decide)
  exact ⟨decodeInvertsEncode (.tlvVtag 0x30), decodeInvertsEncode (.tlvEu64 0x84), hplen,
    decodeInvertsEncode .crcCheck, decodeInvertsEncode .sigVerify, decodeInvertsEncode .timeToWireHp,
    decodeInvertsEncode .hdrGenSession⟩

/-! ## Illegal words -/

/-- The reserved bits are checked first (R82). -/
theorem decode_of_reserved {w : Word} (h : w.extractLsb' 16 16 ≠ 0) : decode w = .error .reservedBits := if_pos h

/-- With RSVD = 0, an opcode that names no command is the error (R82). -/
theorem decode_of_unlisted {w : Word} (hrsvd : w.extractLsb' 16 16 = 0)
    (h : commandOf (w.extractLsb' 0 8) (w.extractLsb' 8 8) = none) :
    decode w = .error (.unknownOpcode (w.extractLsb' 0 8)) := by
  simp [decode, splitWord, hrsvd, h]

end Sys2Proof

namespace Sys2Proof.Machine

theorem runWord_of_ok {w : Word} {i : Instr} (h : decode w = .ok i) (s : State) : runWord w s = exec i s := by
  rw [runWord, h]

theorem runWord_of_error {w : Word} {e : DecodeError} (h : decode w = .error e) (s : State) :
    runWord w s = illegalCommand e s := by
  rw [runWord, h]

/-- Settles O3. -/
theorem illegalCommandWordsRaise : Obligations.IllegalCommandWordsRaise := by
  intro w s
  refine ⟨fun hrsvd => ?_, fun hrsvd hout => ?_, fun hrsvd hin => ?_⟩
  · exact (runWord_of_error (decode_of_reserved hrsvd) s).trans (illegalCommand_eq _ s)
  · have hnone : commandOf (w.extractLsb' 0 8) (w.extractLsb' 8 8) = none := by
      rw [← Option.not_isSome_iff_eq_none, commandOf_isSome]
      omega
    exact (runWord_of_error (decode_of_unlisted hrsvd hnone) s).trans (illegalCommand_eq _ s)
  · obtain ⟨i, hi⟩ := Option.isSome_iff_exists.1 ((commandOf_isSome _ (w.extractLsb' 8 8)).2 hin)
    have hdecode : decode w = .ok i := decode_eq_ok_iff.2 ⟨hrsvd, hi⟩
    exact ⟨i, hdecode, (commandOf_some hi).1, runWord_of_ok hdecode s⟩

/-! ## Commands that store -/

/-- The opcodes of the commands whose row of R84 writes BUF. -/
def storingOpcodes : List Byte := [0x11, 0x19, 0x1A, 0x1B, 0x1C, 0x1D, 0x1E, 0x21, 0x23, 0x42, 0x43]

theorem writePlainHeader_buf (s : State) (b flen : Nat) : (writePlainHeader s b flen).buf = s.buf := by
  obtain ⟨_, _, _, _, _, _, _, _, _, _, h⟩ := writePlainHeader_frame s b flen
  rw [h, State.setHdrLenValid_buf]

theorem hdrParseBody_buf {s t : State} (h : hdrParseBody s = .ok t) : t.buf = s.buf := by
  rcases hdrParseBody_cases h with rfl | ⟨g, -, rfl⟩
  · exact writePlainHeader_buf s _ _
  · rfl

/-- A rule outside the storing commands leaves BUF as it is. -/
theorem rule_buf_of_not_storing {i : Instr} {s t : State} (hi : i.opcode ∉ storingOpcodes) (h : i.rule s = .ok t) :
    t.buf = s.buf := by
  cases i with
  | tlvElen | tlvEbyte _ | tlvEu16 _ | tlvEu24 _ | tlvEu32 _ | tlvEu64 _ | tlvEstr _ | crcGen | sigGen | hdrGenPlain
  | hdrGenSession => exact absurd (by simp [storingOpcodes, Instr.opcode]) hi
  | tlvPlen => rw [plenBody_frame h]
  | tlvVtag _ => rw [vtagBody_frame h]
  | tlvPbyte _ | tlvPu16 _ | tlvPu24 _ | tlvPu32 _ | tlvPu64 _ => rw [parseScalarCommand_frame h]
  | tlvPstr _ => rw [pstrBody_frame h]
  | tlvEbool => cases h
  | crcCalc => rw [crcCalcBody_frame h]
  | crcCheck => rw [crcCheckBody_frame h]
  | sigVerify =>
    obtain ⟨f, rfl⟩ := sigVerifyBody_frame h
    rfl
  | timeToWire => rw [toWireBody_frame h]
  | timeToWireHp => rw [toWireHpBody_frame h]
  | timeFromWire => rw [fromWireBody_frame h]
  | timePackRt => rw [packRtBody_frame h]
  | timeUnpackRt => rw [unpackRtBody_frame h]
  | hdrDetect => rw [hdrDetectBody_frame h]
  | hdrParse => exact hdrParseBody_buf h
  | hdrCmdCheck =>
    rw [hdrCmdCheckBody_frame h]
    simp only [writePlainHeader_buf]

/-- Settles O8: BUF is as before when the rule stores nothing and when the command does not complete, and no command
counts as a reset, so unwritten bytes read as before too. -/
theorem onlyStoringCommandsChangeTheBuffer : Obligations.OnlyStoringCommandsChangeTheBuffer := by
  intro i s t h hcond
  have hbuf : t.buf = s.buf := by
    rcases exec_cases h with ⟨u, hu, rfl⟩ | ⟨n, -, rfl⟩ | ⟨e, -, rfl⟩
    · have hi : i.opcode ∉ storingOpcodes := hcond.resolve_right (not_not.2 (u.setRes_res resOk))
      exact (rule_buf_of_not_storing hi hu).trans s.begin_buf
    · rfl
    · rfl
  exact ⟨hbuf, fun a => congrFun (State.byteAt_congr hbuf (congrArg HostOwned.resets (exec_hostOwned h))) a⟩

end Sys2Proof.Machine
end

section
/-! PROOFS. The TLV commands (40_tlv.md R106, R112 to R129): the length header round trip, the parses and their errors,
the stores at CUR, and an encode followed by its parse. -/

namespace Sys2Proof.Machine

/-! ## From a rule to its command -/

/-- A command whose rule raises an error (R236, R237). -/
theorem exec_of_raise {i : Instr} {s : State} {e : CmdError} (h : i.rule s.begin = .error (.raise e)) :
    exec i s = .next (s.errorState e) := by
  rw [exec_eq_runCommand, runCommand_of_raise h]

/-- A command whose rule completes with STATUS as the start of the command left it (R236). -/
theorem exec_of_ok {i : Instr} {s t : State} (h : i.rule s.begin = .ok t) (hstatus : t.status = s.begin.status) :
    exec i s = .next { t with status := s.okStatus } := by
  have hvalid : t.hdrLenValid = s.hdrLenValid := by
    rw [State.hdrLenValid, hstatus]
    exact s.begin_hdrLenValid
  have hsig : t.sigFail = false := by
    rw [State.sigFail, hstatus]
    exact s.begin_sigFail
  rw [exec_eq_runCommand, runCommand_of_ok h, State.setRes_eq_with, hvalid, hsig]
  rfl

@[simp] theorem State.begin_headerSize (s : State) : s.begin.headerSize = s.headerSize := rfl
@[simp] theorem State.begin_declaredLen (s : State) : s.begin.declaredLen = s.declaredLen := rfl

/-- Settles O31: the rule has no other path. -/
theorem eboolAlwaysRefusesBooleans : Obligations.EboolAlwaysRefusesBooleans := fun _ => exec_of_raise rfl

/-! ## The length header -/

/-- Settles O32: the table of R101 reads the minimal header back. -/
theorem lengthHeaderRoundTrip : Obligations.LengthHeaderRoundTrip := by
  intro n hn
  refine ⟨minimalHeader n, by rw [lenHdr_eq, if_pos hn], length_minimalHeader n, fun s c fin e hread hfit => ?_⟩
  obtain ⟨hsize, hlen⟩ := minimalHeader_reads hn hread
  rw [parseTagLength_eq, hsize, hlen, if_pos hfit]

/-- Settles O24. -/
theorem plenParsesLengthHeader : Obligations.PlenParsesLengthHeader := by
  intro s
  have hparse := parseTagLength_eq s.begin s.cur.toNat s.winEnd outOfBounds
  rw [State.begin_headerSize, State.begin_declaredLen] at hparse
  refine ⟨fun hfit => ?_, fun hout => ?_⟩
  · rw [if_pos hfit] at hparse
    have hrule : Instr.rule .tlvPlen s.begin = .ok { s.begin with
        rlen := BitVec.ofNat 32 (s.declaredLen s.cur.toNat)
        cur := BitVec.ofNat 32 (s.cur.toNat + s.headerSize s.cur.toNat) } := by
      rw [Instr.rule, plenBody]
      exact congrArg (· >>= _) hparse
    exact exec_of_ok hrule rfl
  · rw [if_neg (Nat.not_le.2 hout)] at hparse
    refine exec_of_raise ?_
    rw [Instr.rule, plenBody]
    exact congrArg (· >>= _) hparse

/-! ## Tag checks that fail (R107) -/

section
variable {s : State} {c fin : Nat} {tag : Byte} {e : CmdError}

theorem validateTag_of_no_tag (h : fin < c + 1) : validateTag s c fin tag e = .error (.raise e) := by
  rw [validateTag_eq, if_pos h]

theorem validateTag_of_other_tag (hc : c + 1 ≤ fin) (ht : s.byteAt c ≠ tag) :
    validateTag s c fin tag e = .error (.raise (.protocol .unexpectedTag (s.byteAt c))) := by
  rw [validateTag_eq, if_neg (Nat.not_lt.2 hc), if_pos ht]

theorem validateTag_of_no_header (hc : c + 1 ≤ fin) (ht : s.byteAt c = tag)
    (hv : fin < c + 1 + s.headerSize (c + 1)) : validateTag s c fin tag e = .error (.raise e) := by
  rw [validateTag_eq, if_neg (Nat.not_lt.2 hc), if_neg (not_not.2 ht), if_neg (Nat.not_le.2 hv)]

end

/-- A command whose rule starts with the tag check at CUR, so that an error of the check is its own (R114, R115,
R120). -/
def ChecksTag (i : Instr) (tag : Byte) : Prop :=
  ∀ (s : State) (x : Stop), validateTag s s.cur.toNat s.winEnd tag outOfBounds = .error x → i.rule s = .error x

theorem tlvVtag_checksTag (tag : Byte) : ChecksTag (.tlvVtag tag) tag := by
  intro s x h
  rw [Instr.rule, vtagBody, h]
  rfl

theorem tlvPstr_checksTag (tag : Byte) : ChecksTag (.tlvPstr tag) tag := by
  intro s x h
  rw [Instr.rule, pstrBody, parseString_eq, h]
  rfl

/-- The rule of a scalar parse command (R115 to R119). -/
theorem rule_of_scalarParse {i : Instr} {w : Nat} {tag : Byte} (h : i.scalarParse? = some (w, tag)) :
    i.rule = parseScalarCommand w tag := by
  cases i with
  | tlvPbyte _ | tlvPu16 _ | tlvPu24 _ | tlvPu32 _ | tlvPu64 _ =>
    cases h
    rfl
  | _ => cases h

theorem scalarParse_checksTag {i : Instr} {w : Nat} {tag : Byte} (h : i.scalarParse? = some (w, tag)) :
    ChecksTag i tag := by
  intro s x hx
  rw [rule_of_scalarParse h, parseScalarCommand, parseScalar_eq, hx]
  rfl

section
variable {i : Instr} {tag : Byte} {s : State} (hi : ChecksTag i tag)
include hi

theorem exec_of_no_tag (h : s.winEnd < s.cur.toNat + 1) : exec i s = .next (s.errorState (.plain .outOfBounds)) :=
  exec_of_raise (hi s.begin _ (validateTag_of_no_tag h))

theorem exec_of_other_tag (hc : s.cur.toNat + 1 ≤ s.winEnd) (ht : s.byteAt s.cur.toNat ≠ tag) :
    exec i s = .next (s.errorState (.protocol .unexpectedTag (s.byteAt s.cur.toNat))) :=
  exec_of_raise (hi s.begin _ (validateTag_of_other_tag hc ht))

theorem exec_of_no_header (hc : s.cur.toNat + 1 ≤ s.winEnd) (ht : s.byteAt s.cur.toNat = tag)
    (hv : s.winEnd < s.cur.toNat + 1 + s.headerSize (s.cur.toNat + 1)) :
    exec i s = .next (s.errorState (.plain .outOfBounds)) :=
  exec_of_raise (hi s.begin _ (validateTag_of_no_header hc ht hv))

end

/-! ## The parses -/

section
variable {s : State} {c fin w : Nat} {tag : Byte} {e : CmdError} (ht : s.byteAt c = tag)
  (hv : c + 1 + s.headerSize (c + 1) ≤ fin)
include ht hv

/-- The declared length is compared with the natural width before the window (R108). -/
theorem parseScalar_of_short (hlt : s.declaredLen (c + 1) < w) : parseScalar s c fin tag w e =
    .error (.raise (.protocol .lengthTooShort (BitVec.ofNat 8 (min (s.declaredLen (c + 1)) 255)))) := by
  rw [parseScalar_eq, validateTag_ok ht hv]
  exact if_pos hlt

theorem parseScalar_of_no_value (hle : w ≤ s.declaredLen (c + 1))
    (hout : fin < c + 1 + s.headerSize (c + 1) + s.declaredLen (c + 1)) :
    parseScalar s c fin tag w e = .error (.raise e) := by
  rw [parseScalar_eq, validateTag_ok ht hv]
  exact (if_neg (Nat.not_lt.2 hle)).trans (if_pos hout)

theorem parseString_of_no_value (hout : fin < c + 1 + s.headerSize (c + 1) + s.declaredLen (c + 1)) :
    parseString s c fin tag e = .error (.raise e) := by
  rw [parseString_eq, validateTag_ok ht hv]
  exact if_pos hout

end

/-- Settles O25. -/
theorem vtagValidatesTag : Obligations.VtagValidatesTag := by
  rintro s tag _ _ rfl rfl
  have hi := tlvVtag_checksTag tag
  refine ⟨fun hv ht => ?_, exec_of_no_tag hi, exec_of_other_tag hi, exec_of_no_header hi⟩
  have hrule : (Instr.tlvVtag tag).rule s.begin = .ok { s.begin with
      rlen := BitVec.ofNat 32 (s.declaredLen (s.cur.toNat + 1))
      raddr := BitVec.ofNat 32 (s.cur.toNat + 1 + s.headerSize (s.cur.toNat + 1))
      cur := BitVec.ofNat 32 (s.cur.toNat + 1 + s.headerSize (s.cur.toNat + 1)) } := by
    rw [Instr.rule, vtagBody]
    exact congrArg (· >>= _) (validateTag_ok (s := s.begin) ht hv)
  exact exec_of_ok hrule rfl

/-- Settles O26: past its tag check, a scalar parse compares the declared length first with the natural width, then
with the window (R108). -/
theorem scalarParsesReadDeclaredValue : Obligations.ScalarParsesReadDeclaredValue := by
  rintro i w tag s _ _ _ hw rfl rfl rfl
  have hi := scalarParse_checksTag hw
  refine ⟨fun ht hle hfit => ?_, exec_of_no_tag hi, exec_of_other_tag hi, exec_of_no_header hi,
    fun ht hv hlt => exec_of_raise ?_, fun ht hv hle hout => exec_of_raise ?_⟩
  · have hrule : i.rule s.begin = .ok { s.begin.setVal
          (s.memRead (s.cur.toNat + 1 + s.headerSize (s.cur.toNat + 1)) w) with
        rlen := BitVec.ofNat 32 (s.declaredLen (s.cur.toNat + 1))
        raddr := BitVec.ofNat 32 (s.cur.toNat + 1 + s.headerSize (s.cur.toNat + 1))
        cur := BitVec.ofNat 32 (s.cur.toNat + 1 + s.headerSize (s.cur.toNat + 1) +
          s.declaredLen (s.cur.toNat + 1)) } := by
      have hparse := parseScalar_eq_ok_iff (s := s.begin) (e := outOfBounds) |>.2 ⟨ht, hle, hfit, rfl⟩
      rw [State.begin_memRead] at hparse
      rw [rule_of_scalarParse hw, parseScalarCommand]
      exact congrArg (· >>= _) hparse
    rw [← Nat.shiftRight_eq_div_pow]
    exact exec_of_ok hrule rfl
  · rw [rule_of_scalarParse hw, parseScalarCommand]
    exact congrArg (· >>= _) (parseScalar_of_short (s := s.begin) ht hv hlt)
  · rw [rule_of_scalarParse hw, parseScalarCommand]
    exact congrArg (· >>= _) (parseScalar_of_no_value (s := s.begin) ht hv hle hout)

/-- Settles O27: a string that does not fit has its length header outside the window, or its end. -/
theorem pstrLocatesString : Obligations.PstrLocatesString := by
  rintro s tag _ _ _ rfl rfl rfl
  have hi := tlvPstr_checksTag tag
  refine ⟨fun ht hfit => ?_, exec_of_no_tag hi, exec_of_other_tag hi, fun hc ht hout => ?_⟩
  · have hrule : (Instr.tlvPstr tag).rule s.begin = .ok { s.begin with
        rlen := BitVec.ofNat 32 (s.declaredLen (s.cur.toNat + 1))
        raddr := BitVec.ofNat 32 (s.cur.toNat + 1 + s.headerSize (s.cur.toNat + 1))
        cur := BitVec.ofNat 32 (s.cur.toNat + 1 + s.headerSize (s.cur.toNat + 1) +
          s.declaredLen (s.cur.toNat + 1)) } := by
      rw [Instr.rule, pstrBody]
      exact congrArg (· >>= _) (parseString_eq_ok_iff (s := s.begin) (e := outOfBounds) |>.2 ⟨ht, hfit, rfl⟩)
    exact exec_of_ok hrule rfl
  · by_cases hv : s.cur.toNat + 1 + s.headerSize (s.cur.toNat + 1) ≤ s.winEnd
    · refine exec_of_raise ?_
      rw [Instr.rule, pstrBody]
      exact congrArg (· >>= _) (parseString_of_no_value (s := s.begin) ht hv hout)
    · exact exec_of_no_header hi hc ht (Nat.not_le.1 hv)

/-! ## The stores at CUR -/

section
variable {i : Instr} {s : State} {img : List Byte} (hrule : i.rule s.begin = emitAtCur s.begin img)
include hrule

/-- A command that ends in a store at CUR whose image fits the window (R113, R121, R128). -/
theorem exec_of_emit (hfit : s.cur.toNat + img.length ≤ s.winEnd) :
    ∃ t, exec i s = .next t ∧
      t = { s with status := s.okStatus, cur := BitVec.ofNat 32 (s.cur.toNat + img.length), buf := t.buf } ∧
      StoresAt s t s.cur.toNat img := by
  have hemit := emitAtCur_eq s.begin img
  rw [if_pos (show s.begin.cur.toNat + img.length ≤ s.begin.winEnd from hfit)] at hemit
  exact ⟨_, exec_of_ok (hrule.trans hemit) rfl, rfl, storesAt_of_buf rfl rfl⟩

theorem exec_of_emit_outside (hout : s.winEnd < s.cur.toNat + img.length) :
    exec i s = .next (s.errorState (.plain .outOfBounds)) := by
  have hemit := emitAtCur_eq s.begin img
  rw [if_neg (show ¬ s.begin.cur.toNat + img.length ≤ s.begin.winEnd from Nat.not_le.2 hout)] at hemit
  exact exec_of_raise (hrule.trans hemit)

end

/-- Settles O28. -/
theorem elenStoresMinimalHeader : Obligations.ElenStoresMinimalHeader := by
  rintro s _ rfl
  have hrule (hlen : s.len.toNat ≤ 65535) :
      Instr.rule .tlvElen s.begin = emitAtCur s.begin (minimalHeader s.len.toNat) := by
    rw [Instr.rule, elenBody, State.begin_len, lenHdr_eq, if_pos hlen, Except.ok_bind']
  refine ⟨fun hlen hfit => exec_of_emit (hrule hlen) hfit, fun hlen => exec_of_raise ?_,
    fun hlen hout => exec_of_emit_outside (hrule hlen) hout⟩
  rw [Instr.rule, elenBody, State.begin_len, lenHdr_eq, if_neg (Nat.not_le.2 hlen), Except.error_bind']

/-- The rule and the width of a scalar encode command (R121 to R125). -/
theorem rule_of_scalarEncode {i : Instr} {w : Nat} {tag : Byte} (h : i.scalarEncode? = some (w, tag)) :
    i.rule = encodeScalarCommand w tag ∧ w ≤ 8 := by
  cases i with
  | tlvEbyte _ | tlvEu16 _ | tlvEu24 _ | tlvEu32 _ | tlvEu64 _ =>
    cases h
    exact ⟨rfl, by decide⟩
  | _ => cases h

/-- Settles O29. -/
theorem scalarEncodesStoreImage : Obligations.ScalarEncodesStoreImage := by
  intro i w tag s hw
  obtain ⟨hi, hle⟩ := rule_of_scalarEncode hw
  have hrule : i.rule s.begin = emitAtCur s.begin (tag :: BitVec.ofNat 8 w :: beBytes w (s.val % 2 ^ (8 * w))) := by
    rw [hi, encodeScalarCommand, scalarImage_eq (by omega), State.begin_val]
  have hlen : (tag :: BitVec.ofNat 8 w :: beBytes w (s.val % 2 ^ (8 * w))).length = 2 + w := by
    simp only [List.length_cons, length_beBytes]
    omega
  rw [← hlen]
  exact ⟨exec_of_emit hrule, exec_of_emit_outside hrule⟩

/-- The string encode by cases, in the order of R128. -/
theorem estrBody_eq (tag : Byte) (s : State) :
    estrBody tag s =
      if 65535 < s.len.toNat then .error (.raise (.plain .valueTooLarge))
      else if s.params.bufSize < s.src.toNat + s.len.toNat then .error (.raise outOfBounds)
      else emitAtCur s (tag :: (minimalHeader s.len.toNat ++ s.bytesAt s.src.toNat s.len.toNat)) := by
  unfold estrBody
  by_cases hlen : 65535 < s.len.toNat
  · rw [raiseIf_pos hlen, if_pos hlen, Except.error_bind']
  rw [raiseIf_neg hlen, if_neg hlen, Except.ok_bind']
  by_cases hsrc : s.params.bufSize < s.src.toNat + s.len.toNat
  · rw [raiseIf_pos (Nat.not_le.2 hsrc), if_pos hsrc, Except.error_bind']
  rw [raiseIf_neg (not_not.2 (Nat.not_lt.1 hsrc)), if_neg hsrc, Except.ok_bind', stringImage_eq (by simpa using hlen),
    State.length_bytesAt]

/-- Settles O30: the source is read in the state before the store (R128, R78). -/
theorem estrStoresStringImage : Obligations.EstrStoresStringImage := by
  rintro s tag _ rfl
  have hbody := estrBody_eq tag s.begin
  rw [State.begin_bytesAt] at hbody
  have hrule (hlen : s.len.toNat ≤ 65535) (hsrc : s.src.toNat + s.len.toNat ≤ s.params.bufSize) :
      (Instr.tlvEstr tag).rule s.begin =
        emitAtCur s.begin (tag :: (minimalHeader s.len.toNat ++ s.bytesAt s.src.toNat s.len.toNat)) :=
    hbody.trans ((if_neg (Nat.not_lt.2 hlen)).trans (if_neg (Nat.not_lt.2 hsrc)))
  refine ⟨fun hlen hsrc => exec_of_emit (hrule hlen hsrc), fun hlen => exec_of_raise (hbody.trans (if_pos hlen)),
    fun hlen hout => ?_⟩
  by_cases hsrc : s.src.toNat + s.len.toNat ≤ s.params.bufSize
  · exact exec_of_emit_outside (hrule hlen hsrc) (hout.resolve_left (Nat.not_lt.2 hsrc))
  · exact exec_of_raise (hbody.trans ((if_neg (Nat.not_lt.2 hlen)).trans (if_pos (Nat.not_le.1 hsrc))))

/-! ## An encode followed by its parse (R127) -/

/-- What the parses read where BUF holds a tag, the minimal length header of n, and the bytes bs. -/
theorem taggedImage_reads {t : State} {c n : Nat} {tag : Byte} {bs : List Byte} (hn : n ≤ 65535)
    (h : t.bytesAt c (tag :: (minimalHeader n ++ bs)).length = tag :: (minimalHeader n ++ bs)) :
    t.byteAt c = tag ∧ t.headerSize (c + 1) = (minimalHeader n).length ∧ t.declaredLen (c + 1) = n ∧
      t.bytesAt (c + 1 + (minimalHeader n).length) bs.length = bs := by
  rw [List.length_cons, List.length_append, State.bytesAt, State.bytesAt_append, List.cons.injEq] at h
  obtain ⟨htag, hrest⟩ := h
  obtain ⟨hhdr, hbs⟩ := List.append_inj hrest (State.length_bytesAt ..)
  obtain ⟨hsize, hlen⟩ := minimalHeader_reads hn hhdr
  exact ⟨htag, hsize, hlen, hbs⟩

theorem minimalHeader_of_le {n : Nat} (h : n ≤ 127) : minimalHeader n = [BitVec.ofNat 8 n] := if_pos h

/-- A command that raised an error did not end with RES = OK. -/
theorem res_ne_ok_of_error {i : Instr} {s t : State} {e : CmdError} (h : exec i s = .next t)
    (he : exec i s = .next (s.errorState e)) : t.res ≠ resOk := by
  obtain rfl : s.errorState e = t := Host.Outcome.next.inj (he.symm.trans h)
  rw [State.errorState_res]
  decide

/-- VAL holds any number of 64 bits (10_state.md R35). -/
theorem val_of_words {u : State} {v : Nat} (hv : v < 2 ^ 64) (hlo : u.valLo = BitVec.ofNat 32 v)
    (hhi : u.valHi = BitVec.ofNat 32 (v / 2 ^ 32)) : u.val = v := by
  rw [State.val, hlo, hhi, BitVec.toNat_ofNat, BitVec.toNat_ofNat]
  omega

/-- A scalar encode that ends with RES = OK stored its image inside the window (R121). -/
theorem scalarEncode_stored {i : Instr} {w : Nat} {tag : Byte} {s t : State} (hi : i.scalarEncode? = some (w, tag))
    (h : exec i s = .next t) (hok : t.res = resOk) :
    s.cur.toNat + (2 + w) ≤ s.winEnd ∧
    t = { s with status := s.okStatus, cur := BitVec.ofNat 32 (s.cur.toNat + (2 + w)), buf := t.buf } ∧
    StoresAt s t s.cur.toNat (tag :: (minimalHeader w ++ beBytes w (s.val % 2 ^ (8 * w)))) := by
  obtain ⟨hstore, hout⟩ := scalarEncodesStoreImage i w tag s hi
  have hfit : s.cur.toNat + (2 + w) ≤ s.winEnd :=
    Nat.not_lt.1 fun hlt => res_ne_ok_of_error h (hout hlt) hok
  obtain ⟨t', ht', hframe, hbytes⟩ := hstore hfit
  obtain rfl : t' = t := Host.Outcome.next.inj (ht'.symm.trans h)
  have hw := (rule_of_scalarEncode hi).2
  rw [minimalHeader_of_le (show w ≤ 127 by omega)]
  exact ⟨hfit, hframe, hbytes⟩

theorem scalar_roundTrip {i j : Instr} {w : Nat} {tag : Byte} {s t : State} (hi : i.scalarEncode? = some (w, tag))
    (hj : j.scalarParse? = some (w, tag)) (h : exec i s = .next t) (hok : t.res = resOk) :
    t.cur.toNat = s.cur.toNat + 2 + w ∧
    ∃ u, exec j { t with cur := s.cur } = .next u ∧ u.res = resOk ∧ u.val = s.val % 2 ^ (8 * w) ∧
      u.cur.toNat = s.cur.toNat + 2 + w := by
  have hw := (rule_of_scalarEncode hi).2
  obtain ⟨hfit, hframe, hbytes, -⟩ := scalarEncode_stored hi h hok
  obtain ⟨htag, hsize, hlen, hval⟩ := taggedImage_reads (by omega) hbytes
  rw [minimalHeader_of_le (show w ≤ 127 by omega), List.length_singleton] at hsize hval
  rw [length_beBytes] at hval
  have hend := s.winEnd_lt
  have hcur : (BitVec.ofNat 32 (s.cur.toNat + (2 + w))).toNat = s.cur.toNat + 2 + w := by
    rw [BitVec.toNat_ofNat, Nat.mod_eq_of_lt (by omega), Nat.add_assoc]
  have hread : t.memRead (s.cur.toNat + 1 + 1) w = s.val % 2 ^ (8 * w) := by
    rw [State.memRead, hval, beNat_beBytes, show 256 ^ w = 2 ^ (8 * w) by rw [Nat.pow_mul], Nat.mod_mod]
  have hlt : s.val % 2 ^ (8 * w) < 2 ^ 64 :=
    Nat.lt_of_lt_of_le (Nat.mod_lt _ (by positivity)) (Nat.pow_le_pow_right (by decide) (by omega))
  have hwin : State.winEnd { t with cur := s.cur } = s.winEnd := by rw [hframe]; rfl
  obtain ⟨hparse, -⟩ := scalarParsesReadDeclaredValue j w tag { t with cur := s.cur } s.cur.toNat
    (s.cur.toNat + 1 + 1) w hj rfl (congrArg (s.cur.toNat + 1 + ·) hsize.symm) hlen.symm
  have hexec := hparse htag (Nat.le_refl w) (by rw [hwin]; omega)
  rw [show State.memRead { t with cur := s.cur } = t.memRead from State.memRead_eq rfl rfl, hread] at hexec
  refine ⟨by rw [hframe]; exact hcur, _, hexec, statusOf_res .., val_of_words hlt rfl rfl, ?_⟩
  show (BitVec.ofNat 32 (s.cur.toNat + 1 + 1 + w)).toNat = _
  rw [← hcur]
  congr 2
  omega

/-- A string encode that ends with RES = OK stored its image inside the window (R128). -/
theorem estr_stored {tag : Byte} {s t : State} (h : exec (.tlvEstr tag) s = .next t) (hok : t.res = resOk) :
    s.len.toNat ≤ 65535 ∧
    s.cur.toNat + (1 + (minimalHeader s.len.toNat).length + s.len.toNat) ≤ s.winEnd ∧ t.winEnd = s.winEnd ∧
    StoresAt s t s.cur.toNat (tag :: (minimalHeader s.len.toNat ++ s.bytesAt s.src.toNat s.len.toNat)) := by
  obtain ⟨hstore, hlarge, hout⟩ := estrStoresStringImage s tag _ rfl
  have hlen : s.len.toNat ≤ 65535 := Nat.not_lt.1 fun hlt => res_ne_ok_of_error h (hlarge hlt) hok
  have hin := fun hor => res_ne_ok_of_error h (hout hlen hor) hok
  have hfit := Nat.not_lt.1 fun hlt => hin (.inr hlt)
  obtain ⟨t', ht', hframe, hbytes⟩ := hstore hlen (Nat.not_lt.1 fun hlt => hin (.inl hlt)) hfit
  obtain rfl : t' = t := Host.Outcome.next.inj (ht'.symm.trans h)
  rw [List.length_cons, List.length_append, State.length_bytesAt] at hfit
  exact ⟨hlen, by omega, by rw [hframe]; rfl, hbytes⟩

theorem string_roundTrip {tag : Byte} {s t : State} (h : exec (.tlvEstr tag) s = .next t) (hok : t.res = resOk) :
    ∃ u, exec (.tlvPstr tag) { t with cur := s.cur } = .next u ∧ u.res = resOk ∧ u.rlen = s.len ∧
      u.bytesAt u.raddr.toNat u.rlen.toNat = s.bytesAt s.src.toNat s.len.toNat := by
  obtain ⟨hle, hfit, hwin, hbytes, -⟩ := estr_stored h hok
  obtain ⟨htag, hsize, hlen, hstr⟩ := taggedImage_reads hle hbytes
  rw [State.length_bytesAt] at hstr
  have hend := s.winEnd_lt
  obtain ⟨hparse, -⟩ := pstrLocatesString { t with cur := s.cur } tag s.cur.toNat
    (s.cur.toNat + 1 + (minimalHeader s.len.toNat).length) s.len.toNat rfl
    (congrArg (s.cur.toNat + 1 + ·) hsize.symm) hlen.symm
  have hfit' : s.cur.toNat + 1 + (minimalHeader s.len.toNat).length + s.len.toNat ≤ t.winEnd := by omega
  have hraddr : (BitVec.ofNat 32 (s.cur.toNat + 1 + (minimalHeader s.len.toNat).length)).toNat =
      s.cur.toNat + 1 + (minimalHeader s.len.toNat).length := by
    rw [BitVec.toNat_ofNat, Nat.mod_eq_of_lt (by omega)]
  have hrlen : BitVec.ofNat 32 s.len.toNat = s.len := by rw [BitVec.ofNat_toNat, BitVec.setWidth_eq]
  refine ⟨_, hparse htag hfit', statusOf_res .., hrlen, ?_⟩
  dsimp only
  rw [hrlen, hraddr, ← hstr]
  exact State.bytesAt_congr fun _ _ => rfl

/-- Settles O33. -/
theorem tlvRoundTrip : Obligations.TlvRoundTrip :=
  ⟨fun _ _ _ _ _ _ hi hj h hok => scalar_roundTrip hi hj h hok, fun _ _ _ h hok => string_roundTrip h hok⟩

end Sys2Proof.Machine
end

section
/-! PROOFS. The errors of HDR.PARSE (43_header.md R192, R203, R209), in the order of its checks. -/

namespace Sys2Proof.Machine

/-! ## Detection and the plain frame -/

section
variable {s : State}

theorem hdrParseBody_of_unavailable (h : s.params.bufSize < s.src.toNat + s.len.toNat) :
    hdrParseBody s = .error (.raise outOfBounds) := by
  rw [hdrParseBody, checkAvailable_error h, Except.error_bind']

variable (havail : s.src.toNat + s.len.toNat ≤ s.params.bufSize) (htwo : 2 ≤ s.len.toNat)
include havail htwo

theorem hdrParseBody_of_unknown (hsync : s.byteAt s.src.toNat ≠ s.params.syncByte)
    (hcltp : s.byteAt (s.src.toNat + 1) ≠ s.params.cltpTag) :
    hdrParseBody s = .error (.raise (.protocol .unknownFormat (s.byteAt s.src.toNat))) := by
  rw [hdrParseBody, checkAvailable_ok havail, Except.ok_bind', detect_eq, if_neg (Nat.not_lt.2 htwo),
    if_neg hsync, if_neg hcltp, Except.error_bind']

theorem hdrParseBody_of_plain (hsync : s.byteAt s.src.toNat = s.params.syncByte) :
    hdrParseBody s = parsePlain s s.src.toNat s.len.toNat := by
  rw [hdrParseBody, checkAvailable_ok havail, Except.ok_bind', detect_eq, if_neg (Nat.not_lt.2 htwo),
    if_pos hsync, Except.ok_bind']

theorem hdrParseBody_of_session_error {x : Stop} (hsync : s.byteAt s.src.toNat ≠ s.params.syncByte)
    (hcltp : s.byteAt (s.src.toNat + 1) = s.params.cltpTag)
    (h : parseSession s s.src.toNat s.len.toNat = .error x) : hdrParseBody s = .error x := by
  rw [hdrParseBody, checkAvailable_ok havail, Except.ok_bind', detect_eq, if_neg (Nat.not_lt.2 htwo),
    if_neg hsync, if_pos hcltp, Except.ok_bind', h, Except.error_bind']

end

/-! ## The session frame before its signature (R209) -/

/-- The error of the first failing check of the session header at b, once 26 bytes of it are present; no error when
the frame may be asked for whole (R209). -/
def sessionStartError? (s : State) (b : Nat) : Option CmdError :=
  if s.byteAt (b + 2) ≠ 0xA2 then some (.protocol .unsupportedSessionType (s.byteAt (b + 2)))
  else if s.byteAt (b + 3) ≠ 0x18 then some (.protocol .invalidSessionHeader (s.byteAt (b + 3)))
  else if s.byteAt (b + 22) ∉ s.params.secCodes then
    some (.protocol .unsupportedSecurityAlgorithm (s.byteAt (b + 22)))
  else match sigAlgOf s.params (s.byteAt (b + 23)) with
    | none => some (.protocol .unsupportedSignatureAlgorithm (s.byteAt (b + 23)))
    | some alg =>
      if sessionTotal (s.byteAt b) (s.memRead (b + 6) 4) alg > 65535 ∨
          ¬ InBuf s b (sessionTotal (s.byteAt b) (s.memRead (b + 6) 4) alg) then some (.plain .lengthOverflow)
      else none

theorem parseSession_of_startError {s : State} {b a : Nat} {e : CmdError} (ha : 26 ≤ a)
    (h : sessionStartError? s b = some e) : parseSession s b a = .error (.raise e) := by
  unfold sessionStartError? at h
  unfold parseSession
  rw [needIf_neg (show ¬ a < Config.sessionMin from Nat.not_lt.2 ha), Except.ok_bind']
  dsimp only
  by_cases htype : s.byteAt (b + 2) ≠ 0xA2
  · rw [if_pos htype] at h
    cases h
    rw [raiseIf_pos (show _ ≠ Config.sessionTypeSv from htype), Except.error_bind']
  rw [if_neg htype] at h
  rw [raiseIf_neg (show ¬ _ ≠ Config.sessionTypeSv from htype), Except.ok_bind']
  by_cases hsize : s.byteAt (b + 3) ≠ 0x18
  · rw [if_pos hsize] at h
    cases h
    rw [raiseIf_pos (show _ ≠ Config.sessionHeaderSize from hsize), Except.error_bind']
  rw [if_neg hsize] at h
  rw [raiseIf_neg (show ¬ _ ≠ Config.sessionHeaderSize from hsize), Except.ok_bind']
  by_cases hsec : s.byteAt (b + 22) ∉ s.params.secCodes
  · rw [if_pos hsec] at h
    cases h
    rw [checkSecAlg, raiseIf_pos hsec, Except.error_bind']
  rw [if_neg hsec] at h
  rw [checkSecAlg, raiseIf_neg hsec, Except.ok_bind']
  cases hsig : sigAlgOf s.params (s.byteAt (b + 23)) with
  | none =>
    rw [hsig] at h
    cases h
    rw [legalSigAlg_of_none hsig, Except.error_bind']
  | some alg =>
    simp only [hsig] at h
    rw [legalSigAlg_eq_ok_iff.2 hsig, Except.ok_bind']
    by_cases htotal : sessionTotal (s.byteAt b) (s.memRead (b + 6) 4) alg > 65535 ∨
        ¬ InBuf s b (sessionTotal (s.byteAt b) (s.memRead (b + 6) 4) alg)
    · rw [if_pos htotal] at h
      cases h
      rw [raiseIf_pos htotal, Except.error_bind']
    · rw [if_neg htotal] at h
      cases h

/-! ## The session frame from its signature on (R157, R209) -/

/-- The error of the first failing check after the signature, of the frame at b whose payload ends at b + pe. -/
def sessionPayloadError? (s : State) (b pe : Nat) : Option CmdError :=
  if pe < 33 then some (.protocol .truncated 0)
  else if s.byteAt (b + 32) ≠ 0x82 then some (.protocol .unsupportedPayloadType (s.byteAt (b + 32)))
  else if pe < 38 then some (.protocol .truncated 0)
  else s.asduPrefixError? b (b + pe)

section
variable {s : State} {b a total : Nat} {alg : SigAlg} (ha : 26 ≤ a) (hp : SessionPrefix s b alg total)
  (harrived : total ≤ a)
include ha hp harrived

/-- A payload that ends before its length field does (R196). -/
theorem parseSession_of_short_payload (hpe : total - alg.trailerLen < 32) :
    parseSession s b a = .error (.raise (.protocol .truncated 0)) := by
  rw [parseSession_of_prefix ha hp, needIf_neg (Nat.not_lt.2 harrived), Except.ok_bind']
  dsimp only
  rw [readField_eq]
  by_cases hkey : total - alg.trailerLen < 24 + 4
  · rw [if_pos hkey, Except.error_bind']
  · rw [if_neg hkey, Except.ok_bind', readField_eq, if_pos (show total - alg.trailerLen < 28 + 4 from hpe),
      Except.error_bind']

variable (hpe : 32 ≤ total - alg.trailerLen)
include hpe

theorem parseSession_of_sigCheck_error {x : Stop} (hsig : sigCheck s b total alg = .error x) :
    parseSession s b a = .error x := by
  rw [parseSession_of_prefix ha hp, needIf_neg (Nat.not_lt.2 harrived), Except.ok_bind']
  dsimp only
  rw [readField_eq, if_neg (by omega), Except.ok_bind', readField_eq, if_neg (by omega), Except.ok_bind', hsig,
    Except.error_bind']

theorem parseSession_of_payloadError {f : Bool} {e : CmdError} (hsig : sigCheck s b total alg = .ok f)
    (h : sessionPayloadError? s b (total - alg.trailerLen) = some e) : parseSession s b a = .error (.raise e) := by
  have htype : ∀ x : Byte, x.toNat ≠ Config.payloadType.toNat ↔ x ≠ 0x82 := by decide
  rw [parseSession_of_prefix ha hp, needIf_neg (Nat.not_lt.2 harrived), Except.ok_bind']
  dsimp only
  generalize total - alg.trailerLen = pe at *
  unfold sessionPayloadError? at h
  rw [readField_eq, if_neg (by omega), Except.ok_bind', readField_eq, if_neg (by omega), Except.ok_bind', hsig,
    Except.ok_bind', readField_eq]
  by_cases h33 : pe < 33
  · rw [if_pos h33] at h
    cases h
    rw [if_pos (show pe < 32 + 1 from h33), Except.error_bind']
  rw [if_neg h33] at h
  rw [if_neg (show ¬ pe < 32 + 1 from h33), Except.ok_bind', State.memRead_one]
  by_cases h82 : s.byteAt (b + 32) ≠ 0x82
  · rw [if_pos h82] at h
    cases h
    rw [raiseIf_pos ((htype _).2 h82), Except.error_bind', BitVec.ofNat_toNat, BitVec.setWidth_eq]
  rw [if_neg h82] at h
  rw [raiseIf_neg (mt (htype _).1 h82), Except.ok_bind', readField_eq]
  by_cases h34 : pe < 33 + 1
  · rw [if_pos (show pe < 38 by omega)] at h
    cases h
    rw [if_pos h34, Except.error_bind']
  rw [if_neg h34, Except.ok_bind', readField_eq]
  by_cases h36 : pe < 34 + 2
  · rw [if_pos (show pe < 38 by omega)] at h
    cases h
    rw [if_pos h36, Except.error_bind']
  rw [if_neg h36, Except.ok_bind', readField_eq]
  by_cases h38 : pe < 36 + 2
  · rw [if_pos h38] at h
    cases h
    rw [if_pos h38, Except.error_bind']
  rw [if_neg h38] at h
  rw [if_neg h38, Except.ok_bind', parseAsduPrefix_eq, h, Except.error_bind']

end

/-- A frame without a signature, or with one that matches or that CONFIG lets pass (R157). -/
theorem sigCheck_of_accepted {s : State} {b total : Nat} {alg : SigAlg}
    (h : alg ≠ .none → s.byteAt (b + (total - alg.trailerLen)) = 0x85 ∧ s.keyLen.toNat ≤ 64 ∧
      (MacMatches s b (total - alg.trailerLen) alg ∨ s.config.getLsbD 0 = true)) :
    ∃ f, sigCheck s b total alg = .ok f := by
  by_cases hnone : alg = .none
  · exact ⟨false, sigCheck_eq_ok_iff.2 (.inl ⟨hnone, rfl⟩)⟩
  · obtain ⟨hmark, hkey, hmac⟩ := h hnone
    by_cases hm : MacMatches s b (total - alg.trailerLen) alg
    · exact ⟨false, sigCheck_eq_ok_iff.2 (.inr ⟨hnone, hmark, hkey, .inl ⟨hm, rfl⟩⟩)⟩
    · exact ⟨true, sigCheck_eq_ok_iff.2 (.inr ⟨hnone, hmark, hkey, .inr ⟨hm, hmac.resolve_left hm, rfl⟩⟩)⟩

/-! ## The start of HDR.PARSE reads the same frame -/

theorem sessionStartError?_begin (s : State) : sessionStartError? s.begin = sessionStartError? s := by
  funext b
  rw [sessionStartError?, State.begin_memRead]
  rfl

theorem macMatches_begin (s : State) (b pe : Nat) (alg : SigAlg) :
    MacMatches s.begin b pe alg ↔ MacMatches s b pe alg := by
  rw [MacMatches, State.begin_bytesAt, State.begin_keyBytes]

theorem sigCheck_begin (s : State) (b flen : Nat) (alg : SigAlg) :
    sigCheck s.begin b flen alg = sigCheck s b flen alg := by
  by_cases hnone : alg = .none
  · rw [hnone, sigCheck_none, sigCheck_none]
  · rw [sigCheck_eq _ _ _ hnone, sigCheck_eq _ _ _ hnone]
    exact if_congr .rfl rfl (if_congr .rfl rfl (if_congr (macMatches_begin ..) rfl rfl))

/-- What R209 checks first, of the frame at SRC in the state HDR.PARSE starts in. -/
theorem SessionStart.begin {s : State} {alg : SigAlg} {total : Nat} (h : SessionStart s alg total) :
    SessionPrefix s.begin s.src.toNat alg total where
  sessionType := h.sessionType
  headerSize := h.headerSize
  secLegal := h.secLegal
  sigLegal := h.sigLegal
  length := by
    rw [State.begin_memRead]
    exact h.length
  lengthLow := h.lengthLow
  lengthInBuf := h.lengthInBuf

/-- An error of the session parse is HDR.PARSE's, on a frame that passes what R209 checks first. -/
theorem hdrParse_of_parseSession_error {s : State} {alg : SigAlg} {total : Nat} {e : CmdError}
    (h : SessionStart s alg total) (hparse : parseSession s.begin s.src.toNat s.len.toNat = .error (.raise e)) :
    exec .hdrParse s = .next (s.errorState e) :=
  exec_of_raise (hdrParseBody_of_session_error (s := s.begin) h.inBuf (Nat.le_trans (by decide) h.header) h.notPlain
    h.cltpTag hparse)

/-! ## The errors of HDR.PARSE -/

/-- The errors of a plain frame (R203). -/
theorem hdrParse_plain_errors {s : State} {b flen : Nat} (hb : b = s.src.toNat)
    (hflen : flen = s.memRead (b + 2) 2) (havail : b + s.len.toNat ≤ s.params.bufSize) (hlen : 14 ≤ s.len.toNat)
    (hsync : s.byteAt b = s.params.syncByte) :
    ((s.byteAt (b + 1)).extractLsb' 4 3 ∉ [s.params.ftData, s.params.ftCfg, s.params.ftCmd] →
      exec .hdrParse s = .next (s.errorState (.protocol .unknownFrameType (s.byteAt (b + 1))))) ∧
    ((s.byteAt (b + 1)).extractLsb' 4 3 ∈ [s.params.ftData, s.params.ftCfg, s.params.ftCmd] →
      (flen < 14 → exec .hdrParse s = .next (s.errorState (.protocol .badFrameLength 0))) ∧
      (14 ≤ flen → s.params.bufSize < b + flen →
        exec .hdrParse s = .next (s.errorState (.plain .lengthOverflow))) ∧
      (14 ≤ flen → b + flen ≤ s.params.bufSize → flen ≤ s.len.toNat →
        (s.timebase.toNat < 1 ∨ 16777216 < s.timebase.toNat) →
        exec .hdrParse s = .next (s.errorState (.plain .badArgument)))) := by
  subst hb
  have hrule := (hdrParseBody_of_plain (s := s.begin) havail (Nat.le_trans (by decide) hlen) hsync).trans
    (parsePlain_eq s.begin s.begin.src.toNat s.begin.len.toNat)
  rw [State.begin_memRead, if_neg (show ¬ s.begin.len.toNat < 14 from Nat.not_lt.2 hlen)] at hrule
  have hlegal : legalFrameType s.begin.params (typeCode (s.begin.byteAt (s.begin.src.toNat + 1))) = false ↔
      (s.byteAt (s.src.toNat + 1)).extractLsb' 4 3 ∉ [s.params.ftData, s.params.ftCfg, s.params.ftCmd] := by
    rw [← Bool.not_eq_true, not_congr (legalFrameType_iff _ _)]
    rfl
  refine ⟨fun hbad => exec_of_raise (hrule.trans (if_pos (hlegal.2 hbad))), fun hgood => ?_⟩
  rw [if_neg (mt hlegal.1 (not_not.2 hgood)), State.begin_src, ← hflen] at hrule
  refine ⟨fun hshort => exec_of_raise (hrule.trans (if_pos hshort)), fun hge hover => ?_,
    fun hge hfit harrived htb => ?_⟩
  · exact exec_of_raise (hrule.trans ((if_neg (Nat.not_lt.2 hge)).trans (if_pos hover)))
  · exact exec_of_raise (hrule.trans ((if_neg (Nat.not_lt.2 hge)).trans ((if_neg (Nat.not_lt.2 hfit)).trans
      ((if_neg (Nat.not_lt.2 harrived)).trans (if_pos htb)))))

/-- An error of the session header's first checks is HDR.PARSE's, once 26 bytes are present (R209). -/
theorem hdrParse_of_startError {s : State} {e : CmdError} (havail : s.src.toNat + s.len.toNat ≤ s.params.bufSize)
    (hlen : 26 ≤ s.len.toNat) (hsync : s.byteAt s.src.toNat ≠ s.params.syncByte)
    (hcltp : s.byteAt (s.src.toNat + 1) = s.params.cltpTag) (h : sessionStartError? s s.src.toNat = some e) :
    exec .hdrParse s = .next (s.errorState e) :=
  exec_of_raise (hdrParseBody_of_session_error (s := s.begin) havail (Nat.le_trans (by decide) hlen) hsync hcltp
    (parseSession_of_startError hlen ((congrFun (sessionStartError?_begin s) _).trans h)))

section
variable {s : State} {b : Nat}

theorem sessionStartError?_of_type (h : s.byteAt (b + 2) ≠ 0xA2) :
    sessionStartError? s b = some (.protocol .unsupportedSessionType (s.byteAt (b + 2))) := if_pos h

variable (htype : s.byteAt (b + 2) = 0xA2)
include htype

theorem sessionStartError?_of_size (h : s.byteAt (b + 3) ≠ 0x18) :
    sessionStartError? s b = some (.protocol .invalidSessionHeader (s.byteAt (b + 3))) :=
  (if_neg (not_not.2 htype)).trans (if_pos h)

variable (hsize : s.byteAt (b + 3) = 0x18)
include hsize

theorem sessionStartError?_of_sec (h : s.byteAt (b + 22) ∉ s.params.secCodes) :
    sessionStartError? s b = some (.protocol .unsupportedSecurityAlgorithm (s.byteAt (b + 22))) :=
  (if_neg (not_not.2 htype)).trans ((if_neg (not_not.2 hsize)).trans (if_pos h))

variable (hsec : s.byteAt (b + 22) ∈ s.params.secCodes)
include hsec

theorem sessionStartError?_of_sig (h : sigAlgOf s.params (s.byteAt (b + 23)) = none) :
    sessionStartError? s b = some (.protocol .unsupportedSignatureAlgorithm (s.byteAt (b + 23))) := by
  rw [sessionStartError?, if_neg (not_not.2 htype), if_neg (not_not.2 hsize), if_neg (not_not.2 hsec), h]

theorem sessionStartError?_of_length {alg : SigAlg} {total : Nat}
    (hsig : sigAlgOf s.params (s.byteAt (b + 23)) = some alg)
    (htotal : total = sessionTotal (s.byteAt b) (s.memRead (b + 6) 4) alg)
    (h : 65535 < total ∨ s.params.bufSize < b + total) :
    sessionStartError? s b = some (.plain .lengthOverflow) := by
  rw [sessionStartError?, if_neg (not_not.2 htype), if_neg (not_not.2 hsize), if_neg (not_not.2 hsec), hsig]
  dsimp only
  rw [← htotal]
  exact if_pos (h.imp id Nat.not_le.2)

end

section
variable {s : State} {alg : SigAlg} {total : Nat} (h : SessionStart s alg total) (harrived : total ≤ s.len.toNat)
include h harrived

theorem hdrParse_of_short_payload (hpe : total - alg.trailerLen < 32) :
    exec .hdrParse s = .next (s.errorState (.protocol .truncated 0)) :=
  hdrParse_of_parseSession_error h (parseSession_of_short_payload h.header h.begin harrived hpe)

variable (hpe : 32 ≤ total - alg.trailerLen)
include hpe

theorem hdrParse_of_sigCheck_error {e : CmdError} (hsig : sigCheck s s.src.toNat total alg = .error (.raise e)) :
    exec .hdrParse s = .next (s.errorState e) :=
  hdrParse_of_parseSession_error h
    (parseSession_of_sigCheck_error h.header h.begin harrived hpe ((sigCheck_begin ..).trans hsig))

theorem hdrParse_of_payloadError {e : CmdError}
    (hsig : alg ≠ .none → s.byteAt (s.src.toNat + (total - alg.trailerLen)) = 0x85 ∧ s.keyLen.toNat ≤ 64 ∧
      (MacMatches s s.src.toNat (total - alg.trailerLen) alg ∨ s.config.getLsbD 0 = true))
    (herr : sessionPayloadError? s s.src.toNat (total - alg.trailerLen) = some e) :
    exec .hdrParse s = .next (s.errorState e) := by
  obtain ⟨f, hf⟩ := sigCheck_of_accepted hsig
  exact hdrParse_of_parseSession_error h
    (parseSession_of_payloadError h.header h.begin harrived hpe ((sigCheck_begin ..).trans hf) herr)

end

/-- Settles O53: each clause is one failing check, with the checks before it passed. -/
theorem parseRefusesBadHeaders : Obligations.ParseRefusesBadHeaders := by
  rintro s _ flen rfl hflen
  refine ⟨fun hout => exec_of_raise (hdrParseBody_of_unavailable (s := s.begin) hout), fun havail =>
    ⟨fun htwo hsync hcltp => exec_of_raise (hdrParseBody_of_unknown (s := s.begin) havail htwo hsync hcltp),
    hdrParse_plain_errors rfl hflen havail, fun hlen hsync hcltp => ?_⟩, ?_⟩
  · have hstart {e : CmdError} := hdrParse_of_startError (e := e) havail hlen hsync hcltp
    exact ⟨fun htype => hstart (sessionStartError?_of_type htype),
      fun htype hsize => hstart (sessionStartError?_of_size htype hsize),
      fun htype hsize hsec => hstart (sessionStartError?_of_sec htype hsize hsec),
      fun htype hsize hsec => ⟨fun hsig => hstart (sessionStartError?_of_sig htype hsize hsec hsig),
        fun _ _ hsig htotal hlong => hstart (sessionStartError?_of_length htype hsize hsec hsig htotal hlong)⟩⟩
  · rintro alg total _ h harrived rfl
    have hcheck := sigCheck_eq s s.src.toNat total (alg := alg)
    refine ⟨hdrParse_of_short_payload h harrived, fun hpe hne hmark => ?_, fun hpe hne hmark hkey => ?_,
      fun hpe hne hmark hkey hmac hconfig => ?_, fun hpe hok htype => ?_, fun hok => ⟨fun hpe => ?_,
      fun hpe hlt htype => ?_, fun e hpe htype herr => ?_⟩⟩
    · exact hdrParse_of_sigCheck_error h harrived hpe ((hcheck hne).trans (if_pos hmark))
    · exact hdrParse_of_sigCheck_error h harrived hpe
        ((hcheck hne).trans ((if_neg (not_not.2 hmark)).trans (if_pos hkey)))
    · refine hdrParse_of_sigCheck_error h harrived hpe ?_
      rw [hcheck hne, if_neg (not_not.2 hmark), if_neg (Nat.not_lt.2 hkey), if_neg hmac,
        if_neg (Bool.eq_false_iff.1 hconfig)]
    · exact hdrParse_of_payloadError h harrived (by omega) hok ((if_neg (by omega)).trans (if_pos htype))
    · exact hdrParse_of_payloadError h harrived (by omega) hok (if_pos (by omega))
    · exact hdrParse_of_payloadError h harrived (by omega) hok
        ((if_neg (by omega)).trans ((if_neg (not_not.2 htype)).trans (if_pos hlt)))
    · exact hdrParse_of_payloadError h harrived (by omega) hok
        ((if_neg (by omega)).trans ((if_neg (not_not.2 htype)).trans ((if_neg (by omega)).trans herr)))

end Sys2Proof.Machine
end

section
/-! PROOFS. The checksum commands (41_checksum_signature.md R141 to R148): each rule by cases, the trailer that CRC.GEN
stores, and its check. -/

namespace Sys2Proof.Machine

/-! ## The outcome and the store of a command -/

/-- A command that completes again leaves the STATUS it left before (R236). -/
theorem State.okStatus_of_status {s t : State} (h : t.status = s.okStatus) : t.okStatus = t.status := by
  rw [State.okStatus, State.hdrLenValid, h, State.okStatus, statusOf_hdrLenValid]

/-- A span outside the stored byte string reads as before. -/
theorem StoresAt.bytesAt_disjoint {s t : State} {a : Nat} {bs : List Byte} (h : StoresAt s t a bs) {x n : Nat}
    (hx : x + n ≤ a ∨ a + bs.length ≤ x) : t.bytesAt x n = s.bytesAt x n :=
  State.bytesAt_congr fun i hi => h.2 (x + i) (by omega)

/-! ## The checksum as two bytes -/

/-- A checksum big-endian is its high byte, then its low byte (R146). -/
theorem beBytes_crc (c : BitVec 16) : beBytes 2 c.toNat = [c.extractLsb' 8 8, c.extractLsb' 0 8] := rfl

/-- Where BUF holds a checksum's two bytes, the big-endian read of them is the checksum. -/
theorem State.memRead_of_crc {s : State} {a : Nat} {c : BitVec 16}
    (h : s.bytesAt a 2 = [c.extractLsb' 8 8, c.extractLsb' 0 8]) : s.memRead a 2 = c.toNat := by
  rw [State.memRead, h, ← beBytes_crc, beNat_beBytes]
  exact Nat.mod_eq_of_lt c.isLt

/-! ## The rules by cases -/

/-- The checksum of the span the checksum commands work on: LEN bytes from SRC (R143). -/
def State.spanCrc (s : State) : BitVec 16 := crc16 s.params (s.bytesAt s.src.toNat s.len.toNat)

@[simp] theorem State.begin_spanCrc (s : State) : s.begin.spanCrc = s.spanCrc := by
  rw [State.spanCrc, State.begin_bytesAt]
  rfl

section
variable (s : State)

theorem crcCalcBody_eq : crcCalcBody s =
    if InBuf s s.src.toNat s.len.toNat then .ok { s with crc := s.spanCrc }
    else .error (.raise outOfBounds) := by
  unfold crcCalcBody
  by_cases hin : InBuf s s.src.toNat s.len.toNat
  · rw [raiseIf_neg (not_not.2 hin), if_pos hin]
    rfl
  · rw [raiseIf_pos hin, if_neg hin]
    rfl

theorem crcGenBody_eq : crcGenBody s =
    if InBuf s s.src.toNat (s.len.toNat + 2) then
      .ok { s.memWrite (s.src.toNat + s.len.toNat) 2 s.spanCrc.toNat with crc := s.spanCrc }
    else .error (.raise outOfBounds) := by
  unfold crcGenBody
  by_cases hin : InBuf s s.src.toNat (s.len.toNat + 2)
  · rw [raiseIf_neg (not_not.2 hin), if_pos hin]
    rfl
  · rw [raiseIf_pos hin, if_neg hin]
    rfl

/-- The bounds of the trailer are checked before the trailer is compared (R148). -/
theorem crcCheckBody_eq : crcCheckBody s =
    if InBuf s s.src.toNat (s.len.toNat + 2) then
      if s.memRead (s.src.toNat + s.len.toNat) 2 = s.spanCrc.toNat then .ok { s with crc := s.spanCrc }
      else .error (.raise (.plain .checksumMismatch))
    else .error (.raise outOfBounds) := by
  unfold crcCheckBody
  by_cases hin : InBuf s s.src.toNat (s.len.toNat + 2)
  · rw [raiseIf_neg (not_not.2 hin), if_pos hin, Except.ok_bind']
    by_cases hcrc : s.memRead (s.src.toNat + s.len.toNat) 2 = s.spanCrc.toNat
    · rw [if_pos hcrc]
      exact congrArg (· >>= _) (raiseIf_neg (not_not.2 hcrc) _)
    · rw [if_neg hcrc]
      exact congrArg (· >>= _) (raiseIf_pos hcrc _)
  · rw [raiseIf_pos hin, if_neg hin]
    rfl

end

/-! ## The commands -/

/-- Settles O34. -/
theorem crcCalcComputesSpan : Obligations.CrcCalcComputesSpan := by
  intro s
  have hrule : Instr.rule .crcCalc s.begin = _ := crcCalcBody_eq s.begin
  rw [State.begin_spanCrc] at hrule
  exact ⟨fun hin => exec_of_ok (hrule.trans (if_pos hin)) rfl,
    fun hout => exec_of_raise (hrule.trans (if_neg (Nat.not_le.2 hout)))⟩

/-- Settles O35. -/
theorem crcGenStoresTrailer : Obligations.CrcGenStoresTrailer := by
  rintro s _ rfl
  have hrule : Instr.rule .crcGen s.begin = _ := crcGenBody_eq s.begin
  rw [State.begin_spanCrc] at hrule
  exact ⟨fun hin => ⟨_, exec_of_ok (hrule.trans (if_pos hin)) rfl, rfl, storesAt_of_buf rfl rfl⟩,
    fun hout => exec_of_raise (hrule.trans (if_neg (Nat.not_le.2 hout)))⟩

/-- Settles O36: CONFIG has no part in the rule. -/
theorem crcCheckComparesTrailer : Obligations.CrcCheckComparesTrailer := by
  rintro s _ rfl
  have hrule : Instr.rule .crcCheck s.begin = _ := crcCheckBody_eq s.begin
  rw [State.begin_spanCrc, State.begin_memRead] at hrule
  exact ⟨fun hin hcrc => exec_of_ok (hrule.trans ((if_pos hin).trans (if_pos hcrc))) rfl,
    fun hin hcrc => exec_of_raise (hrule.trans ((if_pos hin).trans (if_neg hcrc))),
    fun hout => exec_of_raise (hrule.trans (if_neg (Nat.not_le.2 hout)))⟩

/-- A CRC.GEN that ends with RES = OK stored its trailer inside BUF and kept the checksum in CRC (R147). -/
theorem crcGen_stored {s t : State} (h : exec .crcGen s = .next t) (hok : t.res = resOk) :
    s.src.toNat + s.len.toNat + 2 ≤ s.params.bufSize ∧
    t = { s with status := s.okStatus, crc := s.spanCrc, buf := t.buf } ∧
    StoresAt s t (s.src.toNat + s.len.toNat) [s.spanCrc.extractLsb' 8 8, s.spanCrc.extractLsb' 0 8] := by
  obtain ⟨hstore, hout⟩ := crcGenStoresTrailer s _ rfl
  have hin := Nat.not_lt.1 fun hlt => res_ne_ok_of_error h (hout hlt) hok
  obtain ⟨t', ht', hframe, hbytes⟩ := hstore hin
  obtain rfl : t' = t := Host.Outcome.next.inj (ht'.symm.trans h)
  exact ⟨hin, hframe, hbytes⟩

/-- Settles O37: the trailer lies after the span, so CRC.CHECK computes the checksum that CRC.GEN kept in CRC. -/
theorem generatedCrcPassesCheck : Obligations.GeneratedCrcPassesCheck := by
  intro s t cfg h hok
  obtain ⟨hin, hframe, hbytes⟩ := crcGen_stored h hok
  have hstatus := State.okStatus_of_status (congrArg State.status hframe)
  have hcrc : t.crc = s.spanCrc := congrArg State.crc hframe
  have howned := exec_hostOwned h
  have hsrc : t.src = s.src := congrArg HostOwned.src howned
  have hlen : t.len = s.len := congrArg HostOwned.len howned
  have hparams : t.params = s.params := congrArg HostOwned.params howned
  have hspan : t.bytesAt t.src.toNat t.len.toNat = s.bytesAt s.src.toNat s.len.toNat := by
    rw [hsrc, hlen, hbytes.bytesAt_disjoint (.inl (Nat.le_refl _))]
  have hkept : t.crc = t.spanCrc := by rw [hcrc, State.spanCrc, State.spanCrc, hspan, hparams]
  have hread : t.memRead (t.src.toNat + t.len.toNat) 2 = t.crc.toNat := by
    rw [hsrc, hlen, hcrc]
    exact State.memRead_of_crc hbytes.1
  have hcfg : State.bytesAt { t with config := cfg } = t.bytesAt := State.bytesAt_eq rfl rfl
  obtain ⟨hmatch, -⟩ := crcCheckComparesTrailer { t with config := cfg } t.crc (by rw [hcfg]; exact hkept)
  have hexec := hmatch (by rw [hsrc, hlen, hparams]; exact hin) (by rw [State.memRead, hcfg]; exact hread)
  rw [hexec, show State.okStatus { t with config := cfg } = t.status from hstatus]

/-- Settles O38, by running the model on the two messages. -/
theorem referenceVectorsHold : Obligations.ReferenceVectorsHold :=
  ⟨by decide +kernel, rfl, by decide +kernel⟩

end Sys2Proof.Machine
end

section
/-! PROOFS. The signature commands (41_checksum_signature.md R149 to R164): the trailer that SIG.GEN stores, the check
of it by SIG.VERIFY, and every error of both. -/

namespace Sys2Proof.Machine

/-- Settles O42: the MAC is one byte shorter than the trailer of every algorithm that has one. -/
theorem trailerLengthCountsMarkerAndMac : Obligations.TrailerLengthCountsMarkerAndMac := by
  intro p code cltp spdu alg k m _ hne
  have hpos := SigAlg.trailerLen_pos hne
  rw [sessionTotal, length_computeMac]
  omega

/-! ## The operands of both commands, in the order of R159 -/

/-- A command that starts with the operand checks of R159, so that an error of them is its own. -/
def ChecksSigOperands (i : Instr) : Prop := ∀ (s : State) (x : Stop), sigOperands s = .error x → i.rule s = .error x

theorem sigGen_checksSigOperands : ChecksSigOperands .sigGen := by
  intro s x h
  rw [Instr.rule, sigGenBody, h, Except.error_bind']

theorem sigVerify_checksSigOperands : ChecksSigOperands .sigVerify := by
  intro s x h
  rw [Instr.rule, sigVerifyBody, h, Except.error_bind']

section
variable {i : Instr} {s : State} (hi : ChecksSigOperands i)
include hi

theorem exec_of_illegal_sigAlg (h : sigAlgOf s.params s.sSigAlg = none) :
    exec i s = .next (s.errorState (.protocol .unsupportedSignatureAlgorithm s.sSigAlg)) :=
  exec_of_raise (hi s.begin _ (sigOperands_of_none s.begin h))

variable {alg : SigAlg} (halg : sigAlgOf s.params s.sSigAlg = some alg)
include halg

theorem exec_of_short_frame (h : s.len.toNat < 2 + alg.trailerLen) :
    exec i s = .next (s.errorState (.plain .badArgument)) :=
  exec_of_raise (hi s.begin _ ((sigOperands_eq s.begin halg).trans (if_pos h)))

theorem exec_of_frame_outside (hlen : 2 + alg.trailerLen ≤ s.len.toNat)
    (h : s.params.bufSize < s.src.toNat + s.len.toNat) : exec i s = .next (s.errorState (.plain .outOfBounds)) :=
  exec_of_raise (hi s.begin _ ((sigOperands_eq s.begin halg).trans
    ((if_neg (Nat.not_lt.2 hlen)).trans (if_pos h))))

end

/-! ## SIG.GEN -/

theorem frameMac_begin (s : State) (b pe : Nat) (alg : SigAlg) : frameMac s.begin b pe alg = frameMac s b pe alg := by
  rw [frameMac, State.begin_keyBytes, State.begin_bytesAt]
  rfl

theorem sigGenBody_of_none {s : State} (ho : sigOperands s = .ok .none) : sigGenBody s = .ok s := by
  rw [sigGenBody, ho]
  rfl

/-- Past its operand checks, SIG.GEN checks the key length and stores the marker and the MAC (R160). -/
theorem sigGenBody_of_signed {s : State} {alg : SigAlg} (ho : sigOperands s = .ok alg) (hne : alg ≠ .none) :
    sigGenBody s =
      if 64 < s.keyLen.toNat then .error (.raise (.plain .badArgument))
      else .ok (s.writeBytes (s.src.toNat + (s.len.toNat - alg.trailerLen))
        (0x85 :: frameMac s s.src.toNat (s.len.toNat - alg.trailerLen) alg)) := by
  rw [sigGenBody, ho, Except.ok_bind', if_neg hne, checkKeyLen]
  by_cases hkey : 64 < s.keyLen.toNat
  · rw [raiseIf_pos hkey, if_pos hkey]
    rfl
  · rw [raiseIf_neg hkey, if_neg hkey]
    rfl

/-- Settles O39. -/
theorem sigGenStoresTrailer : Obligations.SigGenStoresTrailer := by
  rintro s alg _ rfl
  have hi := sigGen_checksSigOperands
  have hrule (ho : sigOperands s = .ok alg) (hne : alg ≠ .none) : Instr.rule .sigGen s.begin = _ :=
    sigGenBody_of_signed (s := s.begin) ho hne
  refine ⟨fun halg hne hlen hin hkey => ?_, fun halg hlen hin => ?_, exec_of_illegal_sigAlg hi,
    exec_of_short_frame hi, exec_of_frame_outside hi, fun halg hne hlen hin hkey => ?_⟩
  · have hexec := exec_of_ok ((hrule (sigOperands_eq_ok_iff.2 ⟨halg, hlen, hin⟩) hne).trans
      (if_neg (Nat.not_lt.2 hkey))) rfl
    rw [frameMac_begin] at hexec
    refine ⟨_, hexec, rfl, storesAt_of_buf rfl rfl, ?_⟩
    have hpos := SigAlg.trailerLen_pos hne
    rw [length_computeMac]
    omega
  · exact exec_of_ok (t := s.begin)
      (sigGenBody_of_none (s := s.begin) (sigOperands_eq_ok_iff.2 ⟨halg, hlen, hin⟩)) rfl
  · exact exec_of_raise ((hrule (sigOperands_eq_ok_iff.2 ⟨halg, hlen, hin⟩) hne).trans (if_pos hkey))

/-! ## SIG.VERIFY -/

/-- Past its operand checks, SIG.VERIFY is the signature check of the whole frame (R161). -/
theorem sigVerifyBody_of_operands {s : State} {alg : SigAlg} (ho : sigOperands s = .ok alg) :
    sigVerifyBody s = (sigCheck s s.src.toNat s.len.toNat alg >>= fun f => .ok (s.setSigFail f)) := by
  rw [sigVerifyBody, ho]
  rfl

section
variable {s : State} {alg : SigAlg} (ho : sigOperands s = .ok alg)
include ho

/-- A signature check that passes records its bit in STATUS.SIGFAIL (R158, R161). -/
theorem exec_sigVerify_of_ok {f : Bool} (h : sigCheck s s.src.toNat s.len.toNat alg = .ok f) :
    exec .sigVerify s = .next { s with status := statusOf s.hdrLenValid f resOk } := by
  have hrule : Instr.rule .sigVerify s.begin = _ := sigVerifyBody_of_operands (s := s.begin) ho
  rw [State.begin_src, State.begin_len, sigCheck_begin, h, Except.ok_bind'] at hrule
  rw [exec_eq_runCommand, runCommand_of_ok hrule, State.setRes_eq_with, State.setSigFail_sigFail,
    State.setSigFail_hdrLenValid, State.begin_hdrLenValid]
  rfl

theorem exec_sigVerify_of_error {e : CmdError} (h : sigCheck s s.src.toNat s.len.toNat alg = .error (.raise e)) :
    exec .sigVerify s = .next (s.errorState e) := by
  refine exec_of_raise ((sigVerifyBody_of_operands (s := s.begin) ho).trans ?_)
  rw [State.begin_src, State.begin_len, sigCheck_begin, h, Except.error_bind']

end

/-- Settles O40: the signature check of R157, in its order. -/
theorem sigVerifyChecksTrailer : Obligations.SigVerifyChecksTrailer := by
  rintro s alg _ rfl
  have hi := sigVerify_checksSigOperands
  refine ⟨exec_of_illegal_sigAlg hi, exec_of_short_frame hi, exec_of_frame_outside hi, fun halg hlen hin => ?_⟩
  have ho : sigOperands s = .ok alg := sigOperands_eq_ok_iff.2 ⟨halg, hlen, hin⟩
  have hcheck := sigCheck_eq s s.src.toNat s.len.toNat (alg := alg)
  refine ⟨?_, fun hne hmark => ?_, fun hne hmark hkey => ?_, fun hne hmark hkey =>
    ⟨fun hmac => ?_, fun hmac hcfg => ?_, fun hmac hcfg => ?_⟩⟩
  · rintro rfl
    exact exec_sigVerify_of_ok ho (sigCheck_none ..)
  · exact exec_sigVerify_of_error ho ((hcheck hne).trans (if_pos hmark))
  · exact exec_sigVerify_of_error ho ((hcheck hne).trans ((if_neg (not_not.2 hmark)).trans (if_pos hkey)))
  · exact exec_sigVerify_of_ok ho (sigCheck_eq_ok_iff.2 (.inr ⟨hne, hmark, hkey, .inl ⟨hmac, rfl⟩⟩))
  · exact exec_sigVerify_of_ok ho (sigCheck_eq_ok_iff.2 (.inr ⟨hne, hmark, hkey, .inr ⟨hmac, hcfg, rfl⟩⟩))
  · refine exec_sigVerify_of_error ho ?_
    rw [hcheck hne, if_neg (not_not.2 hmark), if_neg (Nat.not_lt.2 hkey), if_neg hmac,
      if_neg (Bool.eq_false_iff.1 hcfg)]

/-! ## A signed frame -/

/-- The trailer of a frame at b whose payload end is pe: the marker and the MAC, or nothing for None (R151, R160). -/
def signatureTrailer (s : State) (b pe : Nat) (alg : SigAlg) : List Byte :=
  if alg = .none then [] else 0x85 :: frameMac s b pe alg

/-- What a frame's trailer must be for the signature check to find a match: R157's checks, CONFIG aside. -/
def SignedFrame (s : State) (b pe : Nat) (alg : SigAlg) : Prop :=
  alg ≠ .none → s.byteAt (b + pe) = 0x85 ∧ s.keyLen.toNat ≤ 64 ∧ MacMatches s b pe alg

theorem SignedFrame.sigCheck_eq {s : State} {b flen : Nat} {alg : SigAlg}
    (h : SignedFrame s b (flen - alg.trailerLen) alg) : sigCheck s b flen alg = .ok false := by
  refine sigCheck_eq_ok_iff.2 ?_
  by_cases hnone : alg = .none
  · exact .inl ⟨hnone, rfl⟩
  · obtain ⟨hmark, hkey, hmac⟩ := h hnone
    exact .inr ⟨hnone, hmark, hkey, .inl ⟨hmac, rfl⟩⟩

/-- CONFIG has no part in what a signed frame is. -/
theorem SignedFrame.withConfig {s : State} {b pe : Nat} {alg : SigAlg} (h : SignedFrame s b pe alg) (cfg : BitVec 6) :
    SignedFrame { s with config := cfg } b pe alg := by
  have hbytes : State.bytesAt { s with config := cfg } = s.bytesAt := State.bytesAt_eq rfl rfl
  intro hne
  rw [MacMatches, hbytes]
  exact h hne

/-- The trailer that SIG.GEN computes, stored at the payload end, makes the frame a signed one: the signed span ends
before it (R153). -/
theorem signedFrame_of_stores {s t : State} {b pe : Nat} {alg : SigAlg}
    (hstore : StoresAt s t (b + pe) (signatureTrailer s b pe alg)) (hkey : t.key = s.key)
    (hkeyLen : t.keyLen = s.keyLen) (hle : alg ≠ .none → s.keyLen.toNat ≤ 64) : SignedFrame t b pe alg := by
  intro hne
  obtain ⟨hbytes, houtside⟩ := hstore
  rw [signatureTrailer, if_neg hne, List.length_cons, length_frameMac, State.bytesAt, List.cons.injEq] at hbytes
  obtain ⟨hmark, hmac⟩ := hbytes
  have hsame : frameMac t b pe alg = frameMac s b pe alg :=
    frameMac_congr hkey hkeyLen fun i _ hi => houtside (b + i) (.inl (by omega))
  exact ⟨hmark, hkeyLen ▸ hle hne, hsame.trans hmac.symm⟩

/-- What a SIG.GEN that ends with RES = OK leaves in t: the trailer of the frame at SRC, LEN bytes long, and nothing
else but STATUS (R159, R160). -/
structure SigGenCompleted (s t : State) (alg : SigAlg) : Prop where
  sigLegal : sigAlgOf s.params s.sSigAlg = some alg
  length : 2 + alg.trailerLen ≤ s.len.toNat
  inBuf : s.src.toNat + s.len.toNat ≤ s.params.bufSize
  keyLen : alg ≠ .none → s.keyLen.toNat ≤ 64
  frame : t = { s with status := s.okStatus, buf := t.buf }
  stored : StoresAt s t (s.src.toNat + (s.len.toNat - alg.trailerLen))
    (signatureTrailer s s.src.toNat (s.len.toNat - alg.trailerLen) alg)

theorem sigGen_completed {s t : State} (h : exec .sigGen s = .next t) (hok : t.res = resOk) :
    ∃ alg, SigGenCompleted s t alg := by
  have hspec (alg : SigAlg) := sigGenStoresTrailer s alg _ rfl
  obtain ⟨-, -, hillegal, -⟩ := hspec .none
  cases halg : sigAlgOf s.params s.sSigAlg with
  | none => exact absurd hok (res_ne_ok_of_error h (hillegal halg))
  | some alg =>
    obtain ⟨hsigned, hunsigned, -, hshort, hout, hkeyOut⟩ := hspec alg
    have hlen := Nat.not_lt.1 fun hlt => res_ne_ok_of_error h (hshort halg hlt) hok
    have hin := Nat.not_lt.1 fun hlt => res_ne_ok_of_error h (hout halg hlen hlt) hok
    have hkey (hne : alg ≠ .none) : s.keyLen.toNat ≤ 64 :=
      Nat.not_lt.1 fun hlt => res_ne_ok_of_error h (hkeyOut halg hne hlen hin hlt) hok
    suffices hres : t = { s with status := s.okStatus, buf := t.buf } ∧
        StoresAt s t (s.src.toNat + (s.len.toNat - alg.trailerLen))
          (signatureTrailer s s.src.toNat (s.len.toNat - alg.trailerLen) alg) from
      ⟨alg, halg, hlen, hin, hkey, hres.1, hres.2⟩
    by_cases hnone : alg = .none
    · subst hnone
      obtain rfl := Host.Outcome.next.inj ((hunsigned halg hlen hin).symm.trans h)
      exact ⟨rfl, storesAt_of_buf rfl rfl⟩
    · obtain ⟨t', ht', hframe, hbytes, -⟩ := hsigned halg hnone hlen hin (hkey hnone)
      obtain rfl : t' = t := Host.Outcome.next.inj (ht'.symm.trans h)
      rw [signatureTrailer, if_neg hnone]
      exact ⟨hframe, hbytes⟩

theorem SigGenCompleted.signedFrame {s t : State} {alg : SigAlg} (h : SigGenCompleted s t alg) :
    SignedFrame t s.src.toNat (s.len.toNat - alg.trailerLen) alg :=
  signedFrame_of_stores h.stored (by rw [h.frame]) (by rw [h.frame]) h.keyLen

/-- Settles O41: SIG.VERIFY has the operands of SIG.GEN, and finds the marker and the MAC that it stored. -/
theorem signedFrameVerifies : Obligations.SignedFrameVerifies := by
  intro s t cfg h hok
  obtain ⟨alg, hgen⟩ := sigGen_completed h hok
  have hsigned := hgen.signedFrame.withConfig cfg
  have hstatus := State.okStatus_of_status (congrArg State.status hgen.frame)
  have howned := exec_hostOwned h
  have hsrc : t.src = s.src := congrArg HostOwned.src howned
  have hlen : t.len = s.len := congrArg HostOwned.len howned
  have hparams : t.params = s.params := congrArg HostOwned.params howned
  have halg : t.sSigAlg = s.sSigAlg := by rw [hgen.frame]
  rw [← hsrc, ← hlen] at hsigned
  have ho : sigOperands { t with config := cfg } = .ok alg := by
    refine sigOperands_eq_ok_iff.2 ⟨?_, ?_, ?_⟩ <;> dsimp only
    · rw [hparams, halg]; exact hgen.sigLegal
    · rw [hlen]; exact hgen.length
    · rw [hsrc, hlen, hparams]; exact hgen.inBuf
  have hexec := exec_sigVerify_of_ok ho hsigned.sigCheck_eq
  rwa [show statusOf (State.hdrLenValid { t with config := cfg }) false resOk = t.status from hstatus] at hexec

end Sys2Proof.Machine
end

section
/-! PROOFS. HDR.PARSE of a session frame (43_header.md R209, R210, R214): the registers it writes. -/

namespace Sys2Proof.Machine

/-- Detection selects the session format, and the session parse decides the rest (R193, R214). -/
theorem hdrParseBody_of_session {s : State} {g : SessionHeader}
    (havail : s.src.toNat + s.len.toNat ≤ s.params.bufSize) (htwo : 2 ≤ s.len.toNat)
    (hsync : s.byteAt s.src.toNat ≠ s.params.syncByte) (hcltp : s.byteAt (s.src.toNat + 1) = s.params.cltpTag)
    (h : parseSession s s.src.toNat s.len.toNat = .ok g) : hdrParseBody s = .ok (writeSessionHeader s g) := by
  rw [hdrParseBody, checkAvailable_ok havail, Except.ok_bind', detect_eq, if_neg (Nat.not_lt.2 htwo),
    if_neg hsync, if_pos hcltp, Except.ok_bind']
  dsimp only
  rw [h]
  rfl

/-- The SIGFAIL bit of a signature check that passes: a mismatch that CONFIG let pass (R157, R158). -/
theorem sigCheck_ok_eq_true_iff {s : State} {b flen : Nat} {alg : SigAlg} {f : Bool}
    (h : sigCheck s b flen alg = .ok f) : f = true ↔ alg ≠ .none ∧ ¬ MacMatches s b (flen - alg.trailerLen) alg := by
  rcases sigCheck_eq_ok_iff.1 h with ⟨hnone, rfl⟩ | ⟨hne, -, -, ⟨hmac, rfl⟩ | ⟨hmac, -, rfl⟩⟩
  · simp [hnone]
  · simp [hmac]
  · simp [hne, hmac]

section
variable {s : State} {alg : SigAlg} {total : Nat} (h : SessionFrame s alg total)
include h

theorem SessionFrame.sigCheck_ok {fail : Bool}
    (hfail : fail = true ↔ alg ≠ .none ∧ ¬ MacMatches s s.src.toNat (total - alg.trailerLen) alg) :
    sigCheck s.begin s.src.toNat total alg = .ok fail := by
  obtain ⟨f, hf⟩ := sigCheck_of_accepted h.signed
  have hbit : fail = f := Bool.eq_iff_iff.2 (hfail.trans (sigCheck_ok_eq_true_iff hf).symm)
  rw [sigCheck_begin, hf, hbit]

/-- What HDR.PARSE reads from a session frame it accepts (R209, R210). -/
theorem SessionFrame.parseSession_begin {fail : Bool}
    (hfail : fail = true ↔ alg ≠ .none ∧ ¬ MacMatches s s.src.toNat (total - alg.trailerLen) alg) :
    parseSession s.begin s.src.toNat s.len.toNat = .ok (sessionHeaderAt s.begin s.src.toNat total fail) := by
  have hasdu : parseAsduPrefix s.begin s.src.toNat (total - alg.trailerLen) = .ok _ :=
    parseAsduPrefix_eq_ok_iff.2 ⟨h.svTag, h.countTag, h.countLen, h.countPos, h.seqTag, h.inPayload, rfl⟩
  exact parseSession_eq_ok_iff.2 ⟨alg, total, fail, h.header, h.toSessionStart.begin, h.arrived,
    h.sigCheck_ok hfail, h.payloadType, hasdu, rfl⟩

end

/-- Settles O51: the registers are those of the header that the session parse reads (R214). -/
theorem parseSessionWritesHeaderRegisters : Obligations.ParseSessionWritesHeaderRegisters := by
  rintro s alg total _ fail h rfl hfail
  have hrule : Instr.rule .hdrParse s.begin = .ok (writeSessionHeader s.begin _) :=
    hdrParseBody_of_session (s := s.begin) h.inBuf (Nat.le_trans (by decide) h.header) h.notPlain h.cltpTag
      (h.parseSession_begin hfail)
  generalize hg : sessionHeaderAt s.begin s.src.toNat total fail = g at hrule
  have hvalid : (writeSessionHeader s.begin g).hdrLenValid = true :=
    (State.setSigFail_hdrLenValid ..).trans (State.setHdrLenValid_hdrLenValid ..)
  have hsig : (writeSessionHeader s.begin g).sigFail = g.sigFail := State.setSigFail_sigFail ..
  rw [exec_eq_runCommand, runCommand_of_ok hrule, State.setRes_eq_with, hvalid, hsig, ← hg]
  simp only [writeSessionHeader, sessionHeaderAt, BitVec.ofNat_toNat, BitVec.setWidth_eq]
  rfl

end Sys2Proof.Machine
end

section
/-! PROOFS. A session frame made by HDR.GENSESSION, filled, and signed by SIG.GEN is the frame HDR.PARSE accepts
(41_checksum_signature.md R162, 43_header.md R218). -/

namespace Sys2Proof.Machine

/-! ## What BUF holds -/

/-- BUF holds the byte string bs from offset a upwards. -/
def HoldsAt (s : State) (a : Nat) (bs : List Byte) : Prop := s.bytesAt a bs.length = bs

section
variable {s t : State} {a x : Nat} {bs cs : List Byte}

theorem holdsAt_nil : HoldsAt s a [] ↔ True := iff_of_true rfl trivial

theorem holdsAt_cons {b : Byte} : HoldsAt s a (b :: bs) ↔ s.byteAt a = b ∧ HoldsAt s (a + 1) bs := by
  rw [HoldsAt, List.length_cons, State.bytesAt, List.cons.injEq]
  rfl

theorem holdsAt_append : HoldsAt s a (bs ++ cs) ↔ HoldsAt s a bs ∧ HoldsAt s (a + bs.length) cs := by
  rw [HoldsAt, List.length_append, State.bytesAt_append]
  exact ⟨fun h => List.append_inj h (State.length_bytesAt ..), fun ⟨hbs, hcs⟩ => congrArg₂ (· ++ ·) hbs hcs⟩

/-- A big-endian field of n bytes reads back as the number it was made from (R10, R13). -/
theorem HoldsAt.memRead {n v : Nat} (h : HoldsAt s a (beBytes n v)) (hv : v < 256 ^ n) : s.memRead a n = v := by
  rw [HoldsAt, length_beBytes] at h
  rw [State.memRead, h, beNat_beBytes, Nat.mod_eq_of_lt hv]

/-- A store after a byte string leaves it as it is. -/
theorem HoldsAt.of_stores (h : HoldsAt s x cs) (hst : StoresAt s t a bs) (hx : x + cs.length ≤ a) : HoldsAt t x cs :=
  (hst.bytesAt_disjoint (.inl hx)).trans h

end

/-! ## The header of R210 -/

/-- BUF holds at b a session header, with the fields of the layout R210 as the session registers have them. -/
structure HoldsSessionHeader (s : State) (b : Nat) : Prop where
  cltpLen : s.byteAt b = s.sCltpLen
  cltpTag : s.byteAt (b + 1) = s.params.cltpTag
  sessionType : s.byteAt (b + 2) = 0xA2
  headerSize : s.byteAt (b + 3) = 0x18
  spduLen : s.memRead (b + 6) 4 = s.sSpduLen.toNat
  pktNum : s.memRead (b + 10) 4 = s.sPktNum.toNat
  version : s.memRead (b + 14) 2 = Config.sessionVersion.toNat
  keyTime0 : s.memRead (b + 16) 4 = s.sKeyTime0.toNat
  keyTime1 : s.memRead (b + 20) 2 = s.sKeyTime1.toNat
  secAlg : s.byteAt (b + 22) = s.sSecAlg
  sigAlg : s.byteAt (b + 23) = s.sSigAlg
  keyId : s.memRead (b + 24) 4 = s.sKeyId.toNat
  payLen : s.memRead (b + 28) 4 = s.sPayLen.toNat
  payloadType : s.byteAt (b + 32) = 0x82
  sim : s.byteAt (b + 33) = s.sSim
  appId : s.memRead (b + 34) 2 = s.sAppId.toNat
  asduLen : s.memRead (b + 36) 2 = s.sAsduLen.toNat
  svPdu : HoldsAt s (b + 38) (svHeader s.params s.sBodyLen.toNat)
  count : HoldsAt s (b + 38 + (svHeader s.params s.sBodyLen.toNat).length) (countTlv s.params s.sAsduCount)
  seq : HoldsAt s (b + 38 + (svHeader s.params s.sBodyLen.toNat).length + 3) (seqHeader s.params s.sBodyLen.toNat)

/-- The image that GenSession makes of the session registers is a session header with their fields (R210, R216). -/
theorem holdsSessionHeader_of_image {s : State} {b : Nat}
    (h : HoldsAt s b (sessionImage s s.sSpduLen.toNat s.sPayLen.toNat s.sAsduLen.toNat)) : HoldsSessionHeader s b := by
  have hcount : (countTlv s.params s.sAsduCount).length = 3 := rfl
  simp only [sessionImage, holdsAt_append, holdsAt_cons, holdsAt_nil, List.length_append, List.length_cons,
    List.length_nil, length_beBytes, hcount, Nat.add_assoc, Nat.reduceAdd, true_and, and_assoc] at h
  obtain ⟨hcltp, htag, htype, hsize, -, -, hspdu, hpkt, hver, hkey0, hkey1, hsec, hsig, hkeyId, hpay, hptype, hsim,
    happ, hasdu, hsv, hcnt, hseq⟩ := h
  exact {
    cltpLen := hcltp, cltpTag := htag, sessionType := htype, headerSize := hsize
    spduLen := hspdu.memRead s.sSpduLen.isLt
    pktNum := hpkt.memRead s.sPktNum.isLt
    version := hver.memRead (by decide)
    keyTime0 := hkey0.memRead s.sKeyTime0.isLt
    keyTime1 := hkey1.memRead s.sKeyTime1.isLt
    secAlg := hsec, sigAlg := hsig
    keyId := hkeyId.memRead s.sKeyId.isLt
    payLen := hpay.memRead s.sPayLen.isLt
    payloadType := hptype, sim := hsim
    appId := happ.memRead s.sAppId.isLt
    asduLen := hasdu.memRead s.sAsduLen.isLt
    svPdu := hsv
    count := by rw [Nat.add_assoc]; exact hcnt
    seq := by rw [Nat.add_assoc, Nat.add_assoc]; exact hseq }

/-- What the parses read where BUF holds a tag and the minimal length header of n (R105, R106). -/
theorem HoldsAt.tagHeader {s : State} {a n : Nat} {tag : Byte} (h : HoldsAt s a (tag :: lenHdrBytes n))
    (hn : n ≤ 65535) : s.byteAt a = tag ∧ a + 1 + s.headerSize (a + 1) = a + (tag :: lenHdrBytes n).length ∧
      s.declaredLen (a + 1) = n := by
  rw [lenHdrBytes_eq hn] at h ⊢
  obtain ⟨htag, hhdr⟩ := holdsAt_cons.1 h
  obtain ⟨hsize, hlen⟩ := minimalHeader_reads hn hhdr
  rw [hsize, List.length_cons]
  exact ⟨htag, by omega, hlen⟩

/-- What the ASDU part of a generated header parses as: its three tags, the one count byte, and the offset of the body
right after it (R209, R213, R216). -/
theorem HoldsSessionHeader.asdu {s : State} {b : Nat} (h : HoldsSessionHeader s b) (hbody : s.sBodyLen.toNat ≤ 65535)
    (hinner : svInner s.params s.sBodyLen.toNat ≤ 65535) :
    s.byteAt (b + 38) = s.params.tagSvPdu ∧ s.byteAt (s.countAt b) = s.params.tagAsduCount ∧
    s.declaredLen (s.countAt b + 1) = 1 ∧ s.byteAt (s.countValueAt b) = s.sAsduCount ∧
    s.byteAt (s.seqAt b) = s.params.tagSeqAsdu ∧ s.bodyAt b = b + genHdrLen s.params s.sBodyLen.toNat := by
  obtain ⟨hsvTag, hsvEnd, -⟩ := HoldsAt.tagHeader h.svPdu hinner
  have hcountAt : s.countAt b = b + 38 + (svHeader s.params s.sBodyLen.toNat).length := hsvEnd
  obtain ⟨hcountHdr, hcountByte⟩ := holdsAt_append (bs := s.params.tagAsduCount :: lenHdrBytes 1).1 h.count
  rw [← hcountAt] at hcountHdr hcountByte
  obtain ⟨hcountTag, hcountEnd, hcountLen⟩ := hcountHdr.tagHeader (by decide)
  have hvalueAt : s.countValueAt b = s.countAt b + 2 := hcountEnd
  have hseqAt : s.seqAt b = b + 38 + (svHeader s.params s.sBodyLen.toNat).length + 3 := by
    rw [State.seqAt, hcountLen, hvalueAt, hcountAt]
  have hseq := h.seq
  rw [← hseqAt] at hseq
  obtain ⟨hseqTag, hseqEnd, -⟩ := HoldsAt.tagHeader hseq hbody
  have hbodyAt : s.bodyAt b = s.seqAt b + (seqHeader s.params s.sBodyLen.toNat).length := hseqEnd
  refine ⟨hsvTag, hcountTag, hcountLen, ?_, hseqTag, ?_⟩
  · rw [hvalueAt]
    exact (holdsAt_cons.1 hcountByte).1
  · rw [hbodyAt, hseqAt, genHdrLen]
    omega

/-! ## A generated frame -/

/-- s is a state in which HDR.GENSESSION has made a frame of length total at SRC that does not begin with the sync byte,
and whose session registers are still those of its header (R193, R216, R217). -/
structure GeneratedFrame (s : State) (alg : SigAlg) (total : Nat) : Prop where
  operands : GenOperands s alg total
  inBuf : s.src.toNat + total ≤ s.params.bufSize
  image : HoldsAt s s.src.toNat (sessionImage s s.sSpduLen.toNat s.sPayLen.toNat s.sAsduLen.toNat)
  spduLen : s.sSpduLen.toNat = total - s.sCltpLen.toNat - 8 - alg.trailerLen
  version : s.sVersion = Config.sessionVersion
  frameLen : s.hFrameLen.toNat = total
  hdrLen : s.hHdrLen.toNat = genHdrLen s.params s.sBodyLen.toNat
  format : s.hFormat = FrameFormat.session.code
  frameType : s.hType = s.params.ftData
  hdrLenValid : s.hdrLenValid = true
  notPlain : s.sCltpLen ≠ s.params.syncByte

theorem genHdrLen_ge (p : Params) (l : Nat) : 45 ≤ genHdrLen p l := by
  obtain ⟨hsv, -⟩ := length_svHeader_le p l
  obtain ⟨hseq, -⟩ := length_seqHeader_le p l
  rw [genHdrLen]
  omega

/-- The state HDR.GENSESSION's rule leaves when GenSession answers g (R217). -/
def State.withGenerated (s : State) (g : SessionImage) : State :=
  { (s.writeBytes s.src.toNat g.image).setHdrLenValid true with
    sSpduLen := BitVec.ofNat 32 g.spdu
    sVersion := Config.sessionVersion
    sPayLen := BitVec.ofNat 32 g.payLen
    sAsduLen := BitVec.ofNat 16 g.asduLen
    hFrameLen := BitVec.ofNat 16 g.total
    hHdrLen := BitVec.ofNat 16 g.hdrLen
    hFormat := FrameFormat.session.code
    hType := s.params.ftData }

theorem hdrGenSessionBody_eq_ok {s t : State} (h : hdrGenSessionBody s = .ok t) :
    ∃ g, genSession s = .ok g ∧ s.src.toNat + g.total ≤ s.params.bufSize ∧ t = s.withGenerated g := by
  obtain ⟨g, hg, h⟩ := Except.bind_eq_ok_iff.1 h
  obtain ⟨_, hin, h⟩ := Except.bind_eq_ok_iff.1 h
  exact ⟨g, hg, not_not.1 (raiseIf_eq_ok_iff.1 hin), (Except.ok.inj h).symm⟩

/-- The image that GenSession makes does not depend on what HDR.GENSESSION writes to the registers. -/
theorem sessionImage_withGenerated (s : State) (g : SessionImage) (spdu payLen asduLen : Nat) :
    sessionImage (s.withGenerated g) spdu payLen asduLen = sessionImage s spdu payLen asduLen := rfl

/-- A frame that GenSession answers and that fits BUF is generated by HDR.GENSESSION's writes. -/
theorem generatedFrame_of_genSession {s : State} {g : SessionImage} (h : genSession s = .ok g)
    (hin : s.src.toNat + g.total ≤ s.params.bufSize) (hsync : s.sCltpLen ≠ s.params.syncByte) :
    ∃ alg, GeneratedFrame (s.withGenerated g) alg g.total := by
  obtain ⟨alg, total, ho, hg⟩ := genSession_eq_ok_iff.1 h
  have hlow := ho.lengthLow
  have hlength := ho.length
  have himage : g.image = sessionImage s g.spdu g.payLen g.asduLen := by rw [hg]
  have htotal : g.total = total := by rw [hg]
  have hhdr : g.hdrLen = genHdrLen s.params s.sBodyLen.toNat := by rw [hg]
  have hspdu : g.spdu = total - s.sCltpLen.toNat - 8 - alg.trailerLen := by rw [hg]
  have hpay : g.payLen = total - alg.trailerLen - 32 := by rw [hg]
  have hasdu : g.asduLen = total - alg.trailerLen - 38 := by rw [hg]
  clear hg
  have hspdu' : (s.withGenerated g).sSpduLen.toNat = g.spdu := Nat.mod_eq_of_lt (by omega)
  have hpay' : (s.withGenerated g).sPayLen.toNat = g.payLen := Nat.mod_eq_of_lt (by omega)
  have hasdu' : (s.withGenerated g).sAsduLen.toNat = g.asduLen := Nat.mod_eq_of_lt (by omega)
  refine ⟨alg, ?_⟩
  rw [htotal] at hin ⊢
  exact {
    operands := { ho with }
    inBuf := hin
    image := by
      rw [hspdu', hpay', hasdu', sessionImage_withGenerated, ← himage]
      exact (storesAt_of_buf (s := s) (t := s.withGenerated g) rfl rfl).1
    spduLen := hspdu'.trans hspdu
    version := rfl
    frameLen := (Nat.mod_eq_of_lt (by omega)).trans htotal
    hdrLen := (Nat.mod_eq_of_lt (by omega)).trans hhdr
    format := rfl
    frameType := rfl
    hdrLenValid := State.setHdrLenValid_hdrLenValid _ true
    notPlain := hsync }

/-- A frame stays the generated one when LEN and STATUS change, HDRLEN_VALID aside, and bytes after its header are
stored. -/
theorem GeneratedFrame.of_stores {s t : State} {alg : SigAlg} {total a : Nat} {bs : List Byte}
    (h : GeneratedFrame s alg total) (hframe : t = { s with status := t.status, len := t.len, buf := t.buf })
    (hvalid : t.hdrLenValid = s.hdrLenValid) (hst : StoresAt s t a bs)
    (ha : s.src.toNat + genHdrLen s.params s.sBodyLen.toNat ≤ a) : GeneratedFrame t alg total := by
  have himage := h.image.of_stores hst (by rw [length_sessionImage]; exact ha)
  have hflag := hvalid.trans h.hdrLenValid
  generalize t.status = status, t.len = len, t.buf = buf at hframe
  subst hframe
  exact { h with operands := { h.operands with }, image := himage, hdrLenValid := hflag }

/-- HDR.GENSESSION that ends with RES = OK generates a frame (R217). -/
theorem hdrGenSession_generates {s t : State} (h : exec .hdrGenSession s = .next t) (hok : t.res = resOk)
    (hsync : s.sCltpLen ≠ s.params.syncByte) : ∃ alg total, GeneratedFrame t alg total := by
  obtain ⟨_, hrule, rfl⟩ := exec_ok h hok
  obtain ⟨g, hg, hin, rfl⟩ := hdrGenSessionBody_eq_ok hrule
  obtain ⟨alg, hgen⟩ := generatedFrame_of_genSession hg hin hsync
  exact ⟨alg, _,
    hgen.of_stores (bs := []) rfl (State.setRes_hdrLenValid ..) (storesAt_of_buf rfl rfl) (Nat.le_refl _)⟩

/-! ## A generated and signed frame -/

section
variable {s : State} {alg : SigAlg} {total : Nat} (h : GeneratedFrame s alg total)
include h

theorem GeneratedFrame.payloadEnd :
    total - alg.trailerLen = genHdrLen s.params s.sBodyLen.toNat + s.sBodyLen.toNat := by
  rw [h.operands.length, Nat.add_sub_cancel]

theorem GeneratedFrame.asdu :
    s.byteAt (s.src.toNat + 38) = s.params.tagSvPdu ∧
    s.byteAt (s.countAt s.src.toNat) = s.params.tagAsduCount ∧
    s.declaredLen (s.countAt s.src.toNat + 1) = 1 ∧
    s.byteAt (s.countValueAt s.src.toNat) = s.sAsduCount ∧
    s.byteAt (s.seqAt s.src.toNat) = s.params.tagSeqAsdu ∧
    s.bodyAt s.src.toNat = s.src.toNat + genHdrLen s.params s.sBodyLen.toNat :=
  (holdsSessionHeader_of_image h.image).asdu h.operands.bodyLow h.operands.innerLow

/-- A generated frame that is present and signed is one that HDR.PARSE accepts (R209). -/
theorem GeneratedFrame.sessionFrame (hlen : s.len.toNat = total)
    (hsigned : SignedFrame s s.src.toNat (total - alg.trailerLen) alg) : SessionFrame s alg total := by
  have hhdr := holdsSessionHeader_of_image h.image
  obtain ⟨hsvTag, hcountTag, hcountLen, hcount, hseqTag, hbody⟩ := h.asdu
  have hlow := genHdrLen_ge s.params s.sBodyLen.toNat
  have htotal := h.operands.length
  have hhigh := h.operands.lengthHigh
  have hpe := h.payloadEnd
  exact {
    inBuf := hlen ▸ h.inBuf
    header := by omega
    notPlain := hhdr.cltpLen ▸ h.notPlain
    cltpTag := hhdr.cltpTag
    sessionType := hhdr.sessionType
    headerSize := hhdr.headerSize
    secLegal := hhdr.secAlg ▸ h.operands.secLegal
    sigLegal := hhdr.sigAlg ▸ h.operands.sigLegal
    length := by rw [hhdr.cltpLen, hhdr.spduLen, h.spduLen]; omega
    lengthLow := h.operands.lengthLow
    lengthInBuf := h.inBuf
    arrived := Nat.le_of_eq hlen.symm
    signed := fun hne =>
      have ⟨hmark, hkey, hmac⟩ := hsigned hne
      ⟨hmark, hkey, .inl hmac⟩
    payloadType := hhdr.payloadType
    svTag := hsvTag
    countTag := hcountTag
    countLen := Nat.le_of_eq hcountLen.symm
    countPos := hcount ▸ h.operands.countPos
    seqTag := hseqTag
    inPayload := by omega }

/-- HDR.PARSE reads from a generated and signed frame what the registers hold already (R218). -/
theorem GeneratedFrame.parses (hlen : s.len.toNat = total)
    (hsigned : SignedFrame s s.src.toNat (total - alg.trailerLen) alg) (hstatus : s.status = s.okStatus) :
    exec .hdrParse s = .next s := by
  have hhdr := holdsSessionHeader_of_image h.image
  obtain ⟨-, -, -, hcount, -, hbody⟩ := h.asdu
  have hmatch : false = true ↔ alg ≠ .none ∧ ¬ MacMatches s s.src.toNat (total - alg.trailerLen) alg := by
    refine iff_of_false (by decide) fun ⟨hne, hmac⟩ => ?_
    obtain ⟨-, -, hmatches⟩ := hsigned hne
    exact hmac hmatches
  have hok : statusOf true false resOk = s.status := by rw [hstatus, State.okStatus, h.hdrLenValid]
  have hformat : (2 : BitVec 2) = s.hFormat := h.format.symm
  have hframeLen : BitVec.ofNat 16 total = s.hFrameLen := by
    rw [← h.frameLen, BitVec.ofNat_toNat, BitVec.setWidth_eq]
  have hhdrLen : BitVec.ofNat 16 (s.bodyAt s.src.toNat - s.src.toNat) = s.hHdrLen := by
    rw [hbody, Nat.add_sub_cancel_left, ← h.hdrLen, BitVec.ofNat_toNat, BitVec.setWidth_eq]
  rw [parseSessionWritesHeaderRegisters s alg total _ false (h.sessionFrame hlen hsigned) rfl hmatch]
  simp only [hok, hformat, ← h.frameType, hframeLen, hhdrLen, hhdr.cltpLen, hhdr.spduLen, hhdr.pktNum, hhdr.version,
    ← h.version, hhdr.keyTime0, hhdr.keyTime1, hhdr.secAlg, hhdr.sigAlg, hhdr.keyId, hhdr.payLen, hhdr.sim, hhdr.appId,
    hhdr.asduLen, hcount, BitVec.ofNat_toNat, BitVec.setWidth_eq]

end

/-- SIG.GEN on a generated frame of LEN bytes leaves it the generated frame, and signs it: the trailer lies after the
header (R208, R216). -/
theorem GeneratedFrame.of_sigGen {s t : State} {alg : SigAlg} {total : Nat} (h : GeneratedFrame s alg total)
    (hlen : s.len.toNat = total) (hexec : exec .sigGen s = .next t) (hok : t.res = resOk) :
    GeneratedFrame t alg total ∧ SignedFrame t t.src.toNat (total - alg.trailerLen) alg ∧ t.status = t.okStatus := by
  obtain ⟨_, hsig⟩ := sigGen_completed hexec hok
  obtain rfl := Option.some.inj (hsig.sigLegal.symm.trans h.operands.sigLegal)
  have hsigned := hsig.signedFrame
  have hstored := hsig.stored
  rw [hlen] at hsigned hstored
  have hsrc : t.src = s.src := congrArg HostOwned.src (exec_hostOwned hexec)
  have hstatus : t.status = s.okStatus := congrArg State.status hsig.frame
  have hvalid : t.hdrLenValid = s.hdrLenValid := by
    rw [State.hdrLenValid, hstatus, State.okStatus, statusOf_hdrLenValid]
  have hframe : t = { s with status := t.status, len := t.len, buf := t.buf } := by rw [hsig.frame]
  have hpe := h.payloadEnd
  exact ⟨h.of_stores hframe hvalid hstored (by omega), hsrc ▸ hsigned, (State.okStatus_of_status hstatus).symm⟩

/-- Settles O59: the body and the trailer lie after the generated header, and the trailer ends where the length that
the header declares does. -/
theorem generatedSessionFrameParsesBack : Obligations.GeneratedSessionFrameParsesBack := by
  intro s t u body hgenerate hok _ hsync hsign hok'
  obtain ⟨alg, total, hgen⟩ := hdrGenSession_generates hgenerate hok hsync
  have hsrc : t.src = s.src := congrArg HostOwned.src (exec_hostOwned hgenerate)
  have hlen : (t.hFrameLen.setWidth 32).toNat = total := by
    rw [BitVec.toNat_setWidth, hgen.frameLen, Nat.mod_eq_of_lt (Nat.lt_of_le_of_lt hgen.operands.lengthLow (by decide))]
  have hfilled : GeneratedFrame { t.writeBytes (s.src.toNat + t.hHdrLen.toNat) body with
      len := t.hFrameLen.setWidth 32 } alg total :=
    hgen.of_stores rfl rfl (storesAt_of_buf rfl rfl) (by rw [hgen.hdrLen, hsrc])
  obtain ⟨hkept, hsigned, hstatus⟩ := hfilled.of_sigGen hlen hsign hok'
  have hlen' : u.len = t.hFrameLen.setWidth 32 := congrArg HostOwned.len (exec_hostOwned hsign)
  exact hkept.parses (hlen' ▸ hlen) hsigned hstatus

end Sys2Proof.Machine
end

section
/-! PROOFS. The time commands (42_time.md R171 to R182): each rule's two outcomes, the RefrTm word, and the round trip
of a timestamp through wire time. -/

namespace Sys2Proof.Machine

/-! ## The operand checks -/

/-- The checks of R171 in the order of R177 and R178: a TIMEBASE or T_NS out of range raises BadArgument. -/
theorem timeOperands_error {α : Type} {tb ns : Nat} {rest : Unit → Except Stop α}
    (h : tb < 1 ∨ 16777216 < tb ∨ 1000000000 ≤ ns) :
    (checkTimebase tb >>= fun _ => checkNanos ns >>= rest) = .error (.raise (.plain .badArgument)) := by
  by_cases htb : tb < 1 ∨ 16777216 < tb
  · rw [checkTimebase_error htb, Except.error_bind']
  · rw [checkTimebase_ok (by omega), Except.ok_bind', checkNanos_error (by omega), Except.error_bind']

section
variable {s : State} (h : s.timebase.toNat < 1 ∨ 16777216 < s.timebase.toNat ∨ 1000000000 ≤ s.tNs.toNat)
include h

theorem exec_timeToWire_of_illegal : exec .timeToWire s = .next (s.errorState (.plain .badArgument)) :=
  exec_of_raise (timeOperands_error h)

theorem exec_timeToWireHp_of_illegal : exec .timeToWireHp s = .next (s.errorState (.plain .badArgument)) :=
  exec_of_raise (timeOperands_error h)

end

/-! ## To wire time -/

/-- A carried fraction in the registers: at TB it becomes a second, which the 32-bit W_SOC wraps (R173). -/
theorem State.setWire_carry (s : State) (sec : Word) (f tb : Nat) :
    s.setWire (carry sec.toNat f tb) =
      { s with wSoc := if f = tb then sec + 1 else sec, wFrac := if f = tb then 0 else BitVec.ofNat 32 f } := by
  have hnext : BitVec.ofNat 32 ((sec.toNat + 1) % 2 ^ 32) = sec + 1 :=
    BitVec.eq_of_toNat_eq (by simp [BitVec.toNat_add])
  by_cases hf : f = tb
  · rw [carry, if_pos hf, if_pos hf, if_pos hf, State.setWire, hnext]
    rfl
  · rw [carry, if_neg hf, if_neg hf, if_neg hf, State.setWire, BitVec.ofNat_toNat, BitVec.setWidth_eq]

/-- A conversion to wire time that completes with the fraction f before its carry. -/
theorem exec_of_carried {i : Instr} {s : State} {f : Nat}
    (h : i.rule s.begin = .ok (s.begin.setWire (carry s.tSec.toNat f s.timebase.toNat))) :
    exec i s = .next { s with
      status := s.okStatus
      wSoc := if f = s.timebase.toNat then s.tSec + 1 else s.tSec
      wFrac := if f = s.timebase.toNat then 0 else BitVec.ofNat 32 f } :=
  exec_of_ok (h.trans (congrArg Except.ok (State.setWire_carry ..))) rfl

/-- Settles O43. -/
theorem toWireRoundsAndCarries : Obligations.ToWireRoundsAndCarries := by
  rintro s f rfl
  refine ⟨fun hlow hhigh hns => exec_of_carried ?_, exec_timeToWire_of_illegal⟩
  exact toWireBody_eq_ok_iff.2 ⟨⟨hlow, hhigh⟩, hns, rfl⟩

/-- Without a frame rate the two conversions are one rule (R175). -/
theorem toWireHpBody_of_fps_zero {s : State} (h : s.fps = 0) : toWireHpBody s = toWireBody s := by
  have hrate : toWireAtRate s.tSec.toNat s.tNs.toNat s.timebase.toNat s.fps.toNat =
      toWire s.tSec.toNat s.tNs.toNat s.timebase.toNat := if_pos (by rw [h]; rfl)
  rw [toWireHpBody, hrate]
  rfl

/-- Settles O44. -/
theorem toWireHpQuantisesToFrames : Obligations.ToWireHpQuantisesToFrames := by
  rintro s _ _ rfl rfl
  refine ⟨fun hlow hhigh hns hfps => exec_of_carried ?_, fun hfps => ?_, exec_timeToWireHp_of_illegal⟩
  · refine toWireHpBody_eq_ok_iff.2 ⟨⟨hlow, hhigh⟩, hns, congrArg s.begin.setWire ?_⟩
    exact (if_neg (Nat.ne_of_gt hfps)).symm
  · rw [exec_eq_runCommand, exec_eq_runCommand, runCommand, runCommand]
    exact congrArg (fun x => Host.Outcome.next (settle s x)) (toWireHpBody_of_fps_zero (s := s.begin) hfps)

/-! ## From wire time -/

/-- A timestamp in the registers: T_SEC keeps the seconds modulo 2^32 (R176). -/
theorem State.setTimestamp_fromWire (s : State) (soc : Nat) (fw mask : Word) (tb : Nat) :
    s.setTimestamp (fromWire soc fw mask tb) =
      { s with
        tSec := BitVec.ofNat 32 (soc + nanosOf fw mask tb / 1000000000)
        tNs := BitVec.ofNat 32 (nanosOf fw mask tb % 1000000000) } := by
  have hwrap (n : Nat) : BitVec.ofNat 32 (n % 2 ^ 32) = BitVec.ofNat 32 n := BitVec.eq_of_toNat_eq (by simp)
  rw [fromWire_eq, State.setTimestamp, hwrap]

/-- Settles O45. -/
theorem fromWireMasksAndCarries : Obligations.FromWireMasksAndCarries := by
  rintro s _ rfl
  refine ⟨fun hlow hhigh => ?_, fun hbad => exec_of_raise ?_⟩
  · have hrule : Instr.rule .timeFromWire s.begin =
        .ok (s.begin.setTimestamp (fromWire s.wSoc.toNat s.wFrac s.tqMask s.timebase.toNat)) :=
      congrArg (· >>= _) (checkTimebase_ok ⟨hlow, hhigh⟩)
    exact exec_of_ok (hrule.trans (congrArg Except.ok (State.setTimestamp_fromWire ..))) rfl
  · exact congrArg (· >>= _) (checkTimebase_error hbad)

/-! ## The RefrTm word -/

section
variable (fw : Word) (q : Byte)

/-- The low word of RefrTm as a number: 24 fraction bits above the quality byte (R180). -/
theorem refrTmLow_toNat : (fw.extractLsb' 0 24 ++ q).toNat = fw.toNat % 2 ^ 24 * 256 + q.toNat := by
  rw [BitVec.toNat_append, ← Nat.shiftLeft_add_eq_or_of_lt q.isLt, Nat.shiftLeft_eq]
  simp

theorem refrTmLow_eq : fw.extractLsb' 0 24 ++ q = BitVec.ofNat 32 (fw.toNat % 2 ^ 24 * 256 + q.toNat) := by
  rw [← refrTmLow_toNat, BitVec.ofNat_toNat, BitVec.setWidth_eq]

/-- The fraction comes back with the bits above it cleared (R181). -/
theorem refrTmLow_shiftRight : (fw.extractLsb' 0 24 ++ q) >>> 8 = fw &&& 0x00FFFFFF := by
  apply BitVec.eq_of_toNat_eq
  have hq := q.isLt
  have hmask : fw.toNat &&& 16777215 = fw.toNat % 2 ^ 24 := Nat.and_two_pow_sub_one_eq_mod fw.toNat 24
  rw [BitVec.toNat_ushiftRight, refrTmLow_toNat, Nat.shiftRight_eq_div_pow, BitVec.toNat_and]
  exact (show _ = fw.toNat % 2 ^ 24 by omega).trans hmask.symm

theorem refrTmLow_quality : (fw.extractLsb' 0 24 ++ q).extractLsb' 0 8 = q := by
  apply BitVec.eq_of_toNat_eq
  have hq := q.isLt
  rw [BitVec.extractLsb'_toNat, refrTmLow_toNat, Nat.shiftRight_zero]
  omega

end

/-- The upper 24 bits of a word, zero-extended, are the word shifted past its quality byte (R181). -/
theorem zero_append_extractLsb' (v : Word) : 0#8 ++ v.extractLsb' 8 24 = v >>> 8 := by
  apply BitVec.eq_of_toNat_eq
  have hv := v.isLt
  rw [BitVec.toNat_append, BitVec.extractLsb'_toNat, BitVec.toNat_ushiftRight, Nat.shiftRight_eq_div_pow]
  simp
  omega

theorem exec_timePackRt (s : State) : exec .timePackRt s = .next { s with
    status := s.okStatus, valHi := s.wSoc, valLo := s.wFrac.extractLsb' 0 24 ++ s.tq } :=
  exec_of_ok (t := { s.begin with valHi := s.wSoc, valLo := s.wFrac.extractLsb' 0 24 ++ s.tq }) rfl rfl

theorem exec_timeUnpackRt (s : State) : exec .timeUnpackRt s = .next { s with
    status := s.okStatus, wSoc := s.valHi, wFrac := s.valLo >>> 8, tq := s.valLo.extractLsb' 0 8 } := by
  rw [← zero_append_extractLsb']
  exact exec_of_ok (i := .timeUnpackRt) rfl rfl

/-- Settles O46. -/
theorem refrTmPacksAndUnpacks : Obligations.RefrTmPacksAndUnpacks := by
  refine ⟨fun s => ?_, exec_timeUnpackRt, fun s t h => ?_⟩
  · rw [exec_timePackRt, refrTmLow_eq]
  · obtain rfl := Host.Outcome.next.inj ((exec_timePackRt s).symm.trans h)
    rw [exec_timeUnpackRt, State.okStatus_of_status (s := s) rfl]
    simp only [refrTmLow_shiftRight, refrTmLow_quality]

/-! ## The round trip -/

/-- Rounding half up moves a quotient by at most half the divisor (R172, R176). -/
theorem roundHalfUp_error (a : Nat) {d : Nat} (hd : 1 ≤ d) :
    (a + d / 2) / d * d ≤ a + d / 2 ∧ a ≤ (a + d / 2) / d * d + d / 2 := by
  have hdiv := Nat.div_add_mod' (a + d / 2) d
  have hmod := Nat.mod_lt (a + d / 2) hd
  omega

/-- The two roundings together move a timestamp by at most one timebase unit, half a unit for the fraction and half a
nanosecond for the way back (R182). -/
theorem roundTrip_error {ns tb f m : Nat} (hlow : 1 ≤ tb) (hhigh : tb ≤ 16777216)
    (hf : f = (ns * tb + 500000000) / 1000000000) (hm : m = (f * 1000000000 + tb / 2) / tb) :
    ((m : Int) - (ns : Int)).natAbs * tb ≤ 1000000000 := by
  have hunit : f * 1000000000 ≤ ns * tb + 500000000 ∧ ns * tb ≤ f * 1000000000 + 500000000 :=
    hf ▸ roundHalfUp_error (ns * tb) (d := 1000000000) (by decide)
  have hnano : m * tb ≤ f * 1000000000 + tb / 2 ∧ f * 1000000000 ≤ m * tb + tb / 2 :=
    hm ▸ roundHalfUp_error (f * 1000000000) hlow
  have hscale : ((m : Int) - (ns : Int)).natAbs * tb = (((m * tb : Nat) : Int) - ((ns * tb : Nat) : Int)).natAbs := by
    rw [Nat.cast_mul, Nat.cast_mul, ← sub_mul, Int.natAbs_mul, Int.natAbs_natCast]
  rw [hscale]
  omega

/-- A fraction below the timebase is less than a second (R176). -/
theorem nanos_lt_second {f tb : Nat} (hf : f < tb) (hhigh : tb ≤ 16777216) :
    (f * 1000000000 + tb / 2) / tb < 1000000000 :=
  (Nat.div_lt_iff_lt_mul (by omega)).2 (by omega)

/-- The nanoseconds of a word the mask leaves as it is (R176). -/
theorem nanosOf_ofNat {f tb : Nat} {mask : Word} (hf : f < 2 ^ 24) (hm : mask &&& 0x00FFFFFF = 0) :
    nanosOf (BitVec.ofNat 32 f) mask tb = (f * 1000000000 + tb / 2) / tb := by
  have hword : (BitVec.ofNat 32 f).toNat = f := Nat.mod_eq_of_lt (by omega)
  rw [nanosOf, mask_fraction (hword.symm ▸ hf) hm, hword]

/-- The way back from a carried fraction: the nanoseconds of the fraction before its carry, less the carried second
(R173, R176). -/
theorem nanosOf_carried {f tb : Nat} {mask : Word} (hf : f ≤ tb) (hlow : 1 ≤ tb) (hhigh : tb ≤ 16777216)
    (hm : mask &&& 0x00FFFFFF = 0) :
    nanosOf (if f = tb then 0 else BitVec.ofNat 32 f) mask tb < 1000000000 ∧
    (if f = tb then 1 else 0) * 1000000000 + nanosOf (if f = tb then 0 else BitVec.ofNat 32 f) mask tb =
      (f * 1000000000 + tb / 2) / tb := by
  by_cases hcarry : f = tb
  · have hzero : nanosOf 0 mask tb = 0 := by
      have hhalf : tb / 2 < tb := by omega
      rw [← Nat.div_eq_of_lt hhalf, nanosOf]
      simp
    have hsecond : (tb * 1000000000 + tb / 2) / tb = 1000000000 := by
      rw [Nat.mul_add_div hlow, Nat.div_eq_of_lt (by omega)]
    rw [if_pos hcarry, if_pos hcarry, hzero, hcarry, hsecond]
    decide
  · have hlt : f < tb := by omega
    rw [if_neg hcarry, if_neg hcarry, nanosOf_ofNat (by omega) hm]
    exact ⟨nanos_lt_second hlt hhigh, by omega⟩

/-- A TIME.TOWIRE that ends with RES = OK had legal operands and stored the carried fraction (R177). -/
theorem timeToWire_completed {s t : State} {f : Nat} (h : exec .timeToWire s = .next t) (hok : t.res = resOk)
    (hf : f = (s.tNs.toNat * s.timebase.toNat + 500000000) / 1000000000) :
    (1 ≤ s.timebase.toNat ∧ s.timebase.toNat ≤ 16777216 ∧ s.tNs.toNat < 1000000000) ∧
    t = { s with
      status := s.okStatus
      wSoc := if f = s.timebase.toNat then s.tSec + 1 else s.tSec
      wFrac := if f = s.timebase.toNat then 0 else BitVec.ofNat 32 f } := by
  obtain ⟨hdone, hbad⟩ := toWireRoundsAndCarries s f hf
  obtain ⟨hlow, hhigh, hns⟩ : 1 ≤ s.timebase.toNat ∧ s.timebase.toNat ≤ 16777216 ∧ s.tNs.toNat < 1000000000 := by
    by_contra hlegal
    exact res_ne_ok_of_error h (hbad (by omega)) hok
  exact ⟨⟨hlow, hhigh, hns⟩, Host.Outcome.next.inj (h.symm.trans (hdone hlow hhigh hns))⟩

/-- Settles O47: the seconds gained are the second TIME.TOWIRE carried, and the way back adds none. -/
theorem timeRoundTripWithinOneUnit : Obligations.TimeRoundTripWithinOneUnit := by
  intro s t h hok hmask
  obtain ⟨⟨hlow, hhigh, hns⟩, ht⟩ := timeToWire_completed h hok rfl
  generalize hf : (s.tNs.toNat * s.timebase.toNat + 500000000) / 1000000000 = f at ht
  have hfle : f ≤ s.timebase.toNat := hf ▸ toWire_fraction_le hns
  have herror := roundTrip_error hlow hhigh hf.symm rfl
  obtain ⟨hlt, hsum⟩ := nanosOf_carried hfle hlow hhigh hmask
  have hsoc : t.wSoc = s.tSec + BitVec.ofNat 32 (if f = s.timebase.toNat then 1 else 0) := by
    rw [ht]
    split <;> simp
  have hnanos : nanosOf t.wFrac t.tqMask t.timebase.toNat =
      nanosOf (if f = s.timebase.toNat then 0 else BitVec.ofNat 32 f) s.tqMask s.timebase.toNat := by rw [ht]
  have htb : t.timebase = s.timebase := by rw [ht]
  rw [← hnanos] at hlt hsum
  have hback := (fromWireMasksAndCarries t _ rfl).1 (htb ▸ hlow) (htb ▸ hhigh)
  rw [Nat.div_eq_of_lt hlt, Nat.mod_eq_of_lt hlt, Nat.add_zero, BitVec.ofNat_toNat, BitVec.setWidth_eq] at hback
  refine ⟨_, hback, statusOf_res .., _, by split <;> decide, hsoc, ?_⟩
  rw [BitVec.toNat_ofNat, Nat.mod_eq_of_lt (Nat.lt_trans hlt (by decide)), hsum]
  exact herror

/-! ## The plain header parse -/

/-- The plain parse completes on a frame that meets its conditions (R203). -/
theorem PlainFrame.parsePlain_begin {s : State} {flen : Nat} (h : PlainFrame s flen) :
    parsePlain s.begin s.src.toNat s.len.toNat = .ok (writePlainHeader s.begin s.src.toNat flen) := by
  obtain ⟨hbuf, hheader, -, htype, rfl, hlow, harrived, htb⟩ := h
  have hlegal : ¬ legalFrameType s.begin.params (typeCode (s.begin.byteAt (s.src.toNat + 1))) = false := by
    rw [Bool.not_eq_false]
    exact (legalFrameType_iff _ _).2 htype
  rw [parsePlain_eq, State.begin_memRead, if_neg (Nat.not_lt.2 hheader), if_neg hlegal, if_neg (Nat.not_lt.2 hlow),
    if_neg (by rw [State.begin_params]; omega), if_neg (Nat.not_lt.2 harrived),
    if_neg (by rw [State.begin_timebase]; omega)]

/-- Settles O50. -/
theorem parsePlainWritesHeaderRegisters : Obligations.ParsePlainWritesHeaderRegisters := by
  intro s flen h
  have hrule : Instr.rule .hdrParse s.begin = .ok (writePlainHeader s.begin s.src.toNat flen) :=
    (hdrParseBody_of_plain (s := s.begin) h.inBuf (Nat.le_trans (by decide) h.header) h.sync).trans h.parsePlain_begin
  rw [exec_eq_runCommand, runCommand_of_ok hrule, writePlainHeader_begin]

end Sys2Proof.Machine
end

section
/-! PROOFS. HDR.DETECT, and the commands that defer: which ones, and until how many bytes have arrived (43_header.md
R192, R194, R197, R203, R209, R212). -/

namespace Sys2Proof.Machine

/-- A command whose rule defers (R236). -/
theorem exec_of_need {i : Instr} {s : State} {n : Nat} (h : i.rule s.begin = .error (.need n)) :
    exec i s = .next (s.needState n) := by
  rw [exec_eq_runCommand, runCommand_of_need h]

/-! ## Detection -/

section
variable {s : State}

theorem hdrDetectBody_of_unavailable (h : s.params.bufSize < s.src.toNat + s.len.toNat) :
    hdrDetectBody s = .error (.raise outOfBounds) := by
  rw [hdrDetectBody, checkAvailable_error h, Except.error_bind']

variable (havail : s.src.toNat + s.len.toNat ≤ s.params.bufSize)
include havail

/-- HDR.DETECT on available bytes is Detect, its answer kept in H_FORMAT (R194). -/
theorem hdrDetectBody_of_available :
    hdrDetectBody s = detect s s.src.toNat s.len.toNat >>= fun fmt => .ok { s with hFormat := fmt.code } := by
  rw [hdrDetectBody, checkAvailable_ok havail]
  rfl

theorem hdrDetectBody_of_detect_ok {fmt : FrameFormat} (h : detect s s.src.toNat s.len.toNat = .ok fmt) :
    hdrDetectBody s = .ok { s with hFormat := fmt.code } := by
  rw [hdrDetectBody_of_available havail, h, Except.ok_bind']

theorem hdrDetectBody_of_detect_error {x : Stop} (h : detect s s.src.toNat s.len.toNat = .error x) :
    hdrDetectBody s = .error x := by
  rw [hdrDetectBody_of_available havail, h, Except.error_bind']

end

section
variable {s : State} {b a : Nat}

/-- The first two bytes decide the format, so both must have arrived (R192). -/
theorem detect_of_short (h : a < 2) : detect s b a = .error (.need 2) := (detect_eq s b a).trans (if_pos h)

variable (htwo : 2 ≤ a)
include htwo

theorem detect_of_sync (h : s.byteAt b = s.params.syncByte) : detect s b a = .ok .plain := by
  rw [detect_eq, if_neg (Nat.not_lt.2 htwo), if_pos h]

variable (hsync : s.byteAt b ≠ s.params.syncByte)
include hsync

theorem detect_of_cltp (h : s.byteAt (b + 1) = s.params.cltpTag) : detect s b a = .ok .session := by
  rw [detect_eq, if_neg (Nat.not_lt.2 htwo), if_neg hsync, if_pos h]

theorem detect_of_neither (h : s.byteAt (b + 1) ≠ s.params.cltpTag) :
    detect s b a = .error (.raise (.protocol .unknownFormat (s.byteAt b))) := by
  rw [detect_eq, if_neg (Nat.not_lt.2 htwo), if_neg hsync, if_neg h]

end

/-- Settles O49: each clause is one answer of Detect. -/
theorem detectClassifiesFrame : Obligations.DetectClassifiesFrame := by
  rintro s _ rfl
  refine ⟨fun havail htwo hsync => ?_, fun havail htwo hsync hcltp => ?_, fun havail hshort => ?_,
    fun havail htwo hsync hcltp => ?_, fun hout => ?_⟩
  · exact exec_of_ok (i := .hdrDetect)
      (hdrDetectBody_of_detect_ok (s := s.begin) havail (detect_of_sync htwo hsync)) rfl
  · exact exec_of_ok (i := .hdrDetect)
      (hdrDetectBody_of_detect_ok (s := s.begin) havail (detect_of_cltp htwo hsync hcltp)) rfl
  · exact exec_of_need (hdrDetectBody_of_detect_error (s := s.begin) havail (detect_of_short hshort))
  · exact exec_of_raise (hdrDetectBody_of_detect_error (s := s.begin) havail (detect_of_neither htwo hsync hcltp))
  · exact exec_of_raise (hdrDetectBody_of_unavailable (s := s.begin) hout)

/-! ## Deferral of HDR.PARSE -/

theorem hdrParseBody_of_short {s : State} (havail : s.src.toNat + s.len.toNat ≤ s.params.bufSize)
    (hshort : s.len.toNat < 2) : hdrParseBody s = .error (.need 2) := by
  rw [hdrParseBody, checkAvailable_ok havail, Except.ok_bind', detect_of_short hshort, Except.error_bind']

theorem parsePlain_of_short {s : State} {b a : Nat} (h : a < 14) : parsePlain s b a = .error (.need 14) :=
  (parsePlain_eq s b a).trans (if_pos h)

/-- A legal plain header whose frame has not arrived whole defers to the frame's length (R203). -/
theorem parsePlain_of_incomplete {s : State} {b a : Nat} (hhdr : 14 ≤ a)
    (htype : typeCode (s.byteAt (b + 1)) ∈ [s.params.ftData, s.params.ftCfg, s.params.ftCmd])
    (hfit : b + s.memRead (b + 2) 2 ≤ s.params.bufSize) (hshort : a < s.memRead (b + 2) 2) :
    parsePlain s b a = .error (.need (s.memRead (b + 2) 2)) := by
  have hlegal := (legalFrameType_iff _ _).2 htype
  rw [parsePlain_eq, if_neg (Nat.not_lt.2 hhdr), if_neg (by rw [hlegal]; decide), if_neg (by omega),
    if_neg (Nat.not_lt.2 hfit), if_pos hshort]

/-- Settles O52: each clause is one `need` of the parse, with the checks before it passed. -/
theorem parseDefersUntilFrameArrives : Obligations.ParseDefersUntilFrameArrives := by
  rintro s _ n rfl havail
  have hplain := hdrParseBody_of_plain (s := s.begin) havail
  have hsession {x : Stop} := hdrParseBody_of_session_error (s := s.begin) (x := x) havail
  refine ⟨fun hshort => ?_, fun htwo hshort hsync => ?_, fun hhdr hsync htype hn hfit hshort => ?_,
    fun htwo hshort hsync hcltp => ?_, fun alg h hshort => ?_⟩
  · exact exec_of_need (hdrParseBody_of_short (s := s.begin) havail hshort)
  · exact exec_of_need ((hplain htwo hsync).trans (parsePlain_of_short hshort))
  · rw [← State.begin_memRead] at hn
    subst hn
    exact exec_of_need ((hplain (Nat.le_trans (by decide) hhdr) hsync).trans
      (parsePlain_of_incomplete hhdr htype hfit hshort))
  · exact exec_of_need (hsession htwo hsync hcltp (parseSession_of_short hshort))
  · exact exec_of_need (hsession (Nat.le_trans (by decide) h.header) h.notPlain h.cltpTag
      (parseSession_eq_need_iff.2 (.inr ⟨h.header, hshort, alg, h.begin⟩)))

/-! ## Which commands defer -/

/-- The pseudocode defers only to a byte count past the a bytes present, and of 16 bits (R197). -/
def AsksBeyond {α : Type} (x : Except Stop α) (a : Nat) : Prop := ∀ n, x = .error (.need n) → a < n ∧ n ≤ 65535

section
variable {α β : Type} {a : Nat}

theorem NeverDefers.asksBeyond {x : Except Stop α} (h : NeverDefers x) : AsksBeyond x a := fun n hn => absurd hn (h n)

theorem asksBeyond_bind {x : Except Stop α} {f : α → Except Stop β} (hx : AsksBeyond x a)
    (hf : ∀ c, AsksBeyond (f c) a) : AsksBeyond (x >>= f) a := by
  intro n h
  rcases Except.bind_eq_error_iff.1 h with h | ⟨c, -, h⟩
  · exact hx n h
  · exact hf c n h

theorem asksBeyond_needIf {n : Nat} (hn : n ≤ 65535) : AsksBeyond (needIf (a < n) n) a := by
  intro m h
  obtain ⟨hshort, hm⟩ := needIf_eq_error_iff.1 h
  cases hm
  exact ⟨hshort, hn⟩

end

section
variable {s : State} {b a : Nat}

theorem asksBeyond_detect : AsksBeyond (detect s b a) a :=
  asksBeyond_bind (asksBeyond_needIf (by decide)) fun _ =>
    (neverDefers_ite neverDefers_pure (neverDefers_ite neverDefers_pure neverDefers_error)).asksBeyond

theorem asksBeyond_parsePlain : AsksBeyond (parsePlain s b a) a :=
  asksBeyond_bind (asksBeyond_needIf (by decide)) fun _ =>
    asksBeyond_bind neverDefers_raiseIf.asksBeyond fun _ =>
    asksBeyond_bind neverDefers_raiseIf.asksBeyond fun _ =>
    asksBeyond_bind neverDefers_raiseIf.asksBeyond fun _ =>
    asksBeyond_bind (asksBeyond_needIf (Nat.le_of_lt_succ (s.memRead_lt (b + 2) 2))) fun _ =>
    asksBeyond_bind neverDefers_raiseIf.asksBeyond fun _ => neverDefers_pure.asksBeyond

theorem asksBeyond_parseSession : AsksBeyond (parseSession s b a) a := by
  intro n h
  rcases parseSession_eq_need_iff.1 h with ⟨hshort, rfl⟩ | ⟨-, hshort, _, hstart⟩
  · exact ⟨hshort, by decide⟩
  · exact ⟨hshort, hstart.lengthLow⟩

end

theorem asksBeyond_hdrDetectBody (s : State) : AsksBeyond (hdrDetectBody s) s.len.toNat :=
  asksBeyond_bind neverDefers_raiseIf.asksBeyond fun _ =>
    asksBeyond_bind asksBeyond_detect fun _ => neverDefers_pure.asksBeyond

theorem asksBeyond_hdrParseBody (s : State) : AsksBeyond (hdrParseBody s) s.len.toNat := by
  refine asksBeyond_bind neverDefers_raiseIf.asksBeyond fun _ => asksBeyond_bind asksBeyond_detect fun fmt => ?_
  cases fmt with
  | plain => exact asksBeyond_parsePlain
  | session => exact asksBeyond_bind asksBeyond_parseSession fun _ => neverDefers_pure.asksBeyond

/-- A rule that makes one check and completes. -/
theorem neverDefers_check {p : Prop} [Decidable p] {e : CmdError} {t : State} :
    NeverDefers (raiseIf p e >>= fun _ => .ok t) :=
  neverDefers_bind neverDefers_raiseIf fun _ => neverDefers_ok

theorem neverDefers_sigGenBody (s : State) : NeverDefers (sigGenBody s) :=
  neverDefers_bind neverDefers_sigOperands fun _ =>
    neverDefers_ite neverDefers_pure (neverDefers_bind neverDefers_raiseIf fun _ => neverDefers_pure)

theorem neverDefers_genSession (s : State) : NeverDefers (genSession s) :=
  neverDefers_bind neverDefers_raiseIf fun _ => neverDefers_bind neverDefers_legalSigAlg fun _ =>
    neverDefers_bind neverDefers_raiseIf fun _ => neverDefers_bind neverDefers_raiseIf fun _ =>
    neverDefers_bind neverDefers_raiseIf fun _ => neverDefers_bind neverDefers_raiseIf fun _ =>
    neverDefers_bind neverDefers_raiseIf fun _ => neverDefers_pure

theorem neverDefers_hdrGenPlainBody (s : State) : NeverDefers (hdrGenPlainBody s) :=
  neverDefers_bind neverDefers_raiseIf fun _ => neverDefers_bind neverDefers_raiseIf fun _ =>
    neverDefers_bind neverDefers_raiseIf fun _ => neverDefers_bind neverDefers_raiseIf fun _ =>
    neverDefers_bind neverDefers_raiseIf fun _ => neverDefers_pure

/-- HDR.CMDCHECK has no `need` outcome (R219). -/
theorem neverDefers_hdrCmdCheckBody (s : State) : NeverDefers (hdrCmdCheckBody s) :=
  neverDefers_bind neverDefers_raiseIf fun _ => neverDefers_bind neverDefers_raiseIf fun _ =>
    neverDefers_bind neverDefers_raiseIf fun _ => neverDefers_bind neverDefers_raiseIf fun _ =>
    neverDefers_bind neverDefers_raiseIf fun _ => neverDefers_bind neverDefers_raiseIf fun _ =>
    neverDefers_bind neverDefers_raiseIf fun _ => neverDefers_bind neverDefers_raiseIf fun _ => neverDefers_pure

/-- No command but HDR.DETECT and HDR.PARSE defers (R197). -/
theorem rule_neverDefers {i : Instr} (hdetect : i ≠ .hdrDetect) (hparse : i ≠ .hdrParse) (s : State) :
    NeverDefers (i.rule s) := by
  cases i with
  | hdrDetect => exact absurd rfl hdetect
  | hdrParse => exact absurd rfl hparse
  | tlvPlen => exact neverDefers_bind neverDefers_parseTagLength fun _ => neverDefers_pure
  | tlvElen =>
    exact neverDefers_bind (neverDefers_bind neverDefers_raiseIf fun _ => neverDefers_pure) fun _ =>
      neverDefers_emitAtCur
  | tlvVtag _ => exact neverDefers_bind neverDefers_validateTag fun _ => neverDefers_pure
  | tlvPbyte _ | tlvPu16 _ | tlvPu24 _ | tlvPu32 _ | tlvPu64 _ =>
    exact neverDefers_bind neverDefers_parseScalar fun _ => neverDefers_pure
  | tlvPstr _ => exact neverDefers_bind neverDefers_parseString fun _ => neverDefers_pure
  | tlvEbyte _ | tlvEu16 _ | tlvEu24 _ | tlvEu32 _ | tlvEu64 _ => exact neverDefers_emitAtCur
  | tlvEstr _ =>
    exact neverDefers_bind neverDefers_raiseIf fun _ =>
      neverDefers_bind neverDefers_raiseIf fun _ => neverDefers_emitAtCur
  | tlvEbool => exact neverDefers_error
  | crcCalc | crcGen => exact neverDefers_check
  | crcCheck => exact neverDefers_bind neverDefers_raiseIf fun _ => neverDefers_check
  | sigGen => exact neverDefers_sigGenBody s
  | sigVerify =>
    exact neverDefers_bind neverDefers_sigOperands fun _ =>
      neverDefers_bind neverDefers_sigCheck fun _ => neverDefers_pure
  | timeToWire | timeToWireHp => exact neverDefers_bind neverDefers_raiseIf fun _ => neverDefers_check
  | timeFromWire => exact neverDefers_check
  | timePackRt | timeUnpackRt => exact neverDefers_ok
  | hdrGenPlain => exact neverDefers_hdrGenPlainBody s
  | hdrGenSession => exact neverDefers_bind (neverDefers_genSession s) fun _ => neverDefers_check
  | hdrCmdCheck => exact neverDefers_hdrCmdCheckBody s

/-- A rule that defers is that of a frame decoder, and asks for more bytes than are available (R197). -/
theorem rule_need {i : Instr} {s : State} {n : Nat} (h : i.rule s = .error (.need n)) :
    (i = .hdrDetect ∨ i = .hdrParse) ∧ s.len.toNat < n ∧ n ≤ 65535 := by
  by_cases hdetect : i = .hdrDetect
  · subst hdetect
    exact ⟨.inl rfl, asksBeyond_hdrDetectBody s n h⟩
  · by_cases hparse : i = .hdrParse
    · subst hparse
      exact ⟨.inr rfl, asksBeyond_hdrParseBody s n h⟩
    · exact absurd h (rule_neverDefers hdetect hparse s n)

/-- Settles O10: NEED holds the whole byte count, which has 16 bits. -/
theorem onlyFrameDecodersDefer : Obligations.OnlyFrameDecodersDefer := by
  intro i s t h hres
  rcases exec_cases h with ⟨u, -, rfl⟩ | ⟨n, hn, rfl⟩ | ⟨e, -, rfl⟩
  · rw [State.setRes_res] at hres
    exact absurd hres (by decide)
  · obtain ⟨hi, hshort, hn⟩ := rule_need hn
    have hneed : (s.needState n).need.toNat = n := Nat.mod_eq_of_lt (by omega)
    rw [hneed]
    exact ⟨hi, hshort, rfl⟩
  · rw [State.errorState_res] at hres
    exact absurd hres (by decide)

end Sys2Proof.Machine
end

section
/-! PROOFS. HDR.CMDCHECK (43_header.md R219): its checks in order, and the registers it writes. -/

namespace Sys2Proof.Machine

/-- HDR.CMDCHECK's rule by cases, in the order of R219, for the frame at b of length flen with checksum c. -/
theorem hdrCmdCheckBody_eq {s : State} {b flen : Nat} {c : BitVec 16} (hb : b = s.src.toNat)
    (hflen : flen = s.memRead (b + 2) 2) (hc : c = crc16 s.params (s.bytesAt b (flen - 2))) :
    hdrCmdCheckBody s =
      if s.params.bufSize < b + s.len.toNat then .error (.raise outOfBounds)
      else if s.len.toNat < 14 then .error (.raise (.protocol .bufferTooShort 0))
      else if s.byteAt b ≠ s.params.syncByte then .error (.raise (.protocol .unknownFormat (s.byteAt b)))
      else if typeCode (s.byteAt (b + 1)) ≠ s.params.ftCmd then
        .error (.raise (.protocol .wrongFrameType (s.byteAt (b + 1))))
      else if s.len.toNat < flen then .error (.raise (.protocol .frameExceedsBuffer 0))
      else if flen < 16 then .error (.raise (.protocol .badFrameLength 0))
      else if s.memRead (b + (flen - 2)) 2 ≠ c.toNat then .error (.raise (.plain .checksumMismatch))
      else if s.timebase.toNat < 1 ∨ 16777216 < s.timebase.toNat then .error (.raise (.plain .badArgument))
      else .ok { writePlainHeader s b flen with crc := c } := by
  subst hb hc
  unfold hdrCmdCheckBody
  dsimp only
  rw [← hflen]
  by_cases havail : s.params.bufSize < s.src.toNat + s.len.toNat
  · rw [checkAvailable_error havail, if_pos havail, Except.error_bind']
  rw [checkAvailable_ok (Nat.not_lt.1 havail), if_neg havail, Except.ok_bind']
  by_cases hhdr : s.len.toNat < 14
  · rw [raiseIf_pos (show _ < Config.plainHdrLen from hhdr), if_pos hhdr, Except.error_bind']
  rw [raiseIf_neg (show ¬ _ < Config.plainHdrLen from hhdr), if_neg hhdr, Except.ok_bind']
  by_cases hsync : s.byteAt s.src.toNat ≠ s.params.syncByte
  · rw [raiseIf_pos hsync, if_pos hsync, Except.error_bind']
  rw [raiseIf_neg hsync, if_neg hsync, Except.ok_bind']
  by_cases htype : typeCode (s.byteAt (s.src.toNat + 1)) ≠ s.params.ftCmd
  · rw [raiseIf_pos htype, if_pos htype, Except.error_bind']
  rw [raiseIf_neg htype, if_neg htype, Except.ok_bind']
  by_cases harrived : s.len.toNat < flen
  · rw [raiseIf_pos harrived, if_pos harrived, Except.error_bind']
  rw [raiseIf_neg harrived, if_neg harrived, Except.ok_bind']
  by_cases hlow : flen < 16
  · rw [raiseIf_pos hlow, if_pos hlow, Except.error_bind']
  rw [raiseIf_neg hlow, if_neg hlow, Except.ok_bind', Nat.add_sub_assoc (by omega)]
  by_cases hcrc : s.memRead (s.src.toNat + (flen - 2)) 2 ≠ (crc16 s.params (s.bytesAt s.src.toNat (flen - 2))).toNat
  · rw [raiseIf_pos hcrc, if_pos hcrc, Except.error_bind']
  rw [raiseIf_neg hcrc, if_neg hcrc, Except.ok_bind']
  by_cases htb : s.timebase.toNat < 1 ∨ 16777216 < s.timebase.toNat
  · rw [checkTimebase_error htb, if_pos htb, Except.error_bind']
  · rw [checkTimebase_ok (by omega), if_neg htb, Except.ok_bind', Except.pure_eq_ok]

/-- The registers HDR.CMDCHECK leaves, by the record of claims. -/
theorem writePlainHeader_begin_withCrc (s : State) (flen : Nat) (c : BitVec 16) :
    ({ writePlainHeader s.begin s.src.toNat flen with crc := c } : State).setRes resOk =
      { s.withPlainHeader flen with crc := c } :=
  congrArg (fun t : State => { t with crc := c }) (writePlainHeader_begin s flen)

/-- Settles O57: each clause is one failing check with the checks before it passed, and the last is the parse. -/
theorem cmdCheckValidatesCommandFrame : Obligations.CmdCheckValidatesCommandFrame := by
  rintro s _ flen c rfl hflen hc
  have hrule : Instr.rule .hdrCmdCheck s.begin = _ :=
    hdrCmdCheckBody_eq (s := s.begin) (b := s.src.toNat) (flen := flen) (c := c) rfl
      (by rwa [State.begin_memRead]) (by rwa [State.begin_bytesAt])
  rw [State.begin_memRead] at hrule
  refine ⟨fun hout => exec_of_raise (hrule.trans (if_pos hout)), fun havail => ?_⟩
  replace hrule := hrule.trans (if_neg (Nat.not_lt.2 havail))
  refine ⟨fun hshort => exec_of_raise (hrule.trans (if_pos hshort)),
    fun hhdr hsync => exec_of_raise (hrule.trans ((if_neg (Nat.not_lt.2 hhdr)).trans (if_pos hsync))),
    fun hhdr hsync htype => exec_of_raise (hrule.trans ((if_neg (Nat.not_lt.2 hhdr)).trans
      ((if_neg (not_not.2 hsync)).trans (if_pos htype)))), fun hhdr hsync htype => ?_⟩
  replace hrule := hrule.trans ((if_neg (Nat.not_lt.2 hhdr)).trans
    ((if_neg (not_not.2 hsync)).trans (if_neg (not_not.2 htype))))
  refine ⟨fun hover => exec_of_raise (hrule.trans (if_pos hover)),
    fun harrived hlow => exec_of_raise (hrule.trans ((if_neg (Nat.not_lt.2 harrived)).trans (if_pos hlow))),
    fun harrived hlow hcrc => exec_of_raise (hrule.trans ((if_neg (Nat.not_lt.2 harrived)).trans
      ((if_neg (Nat.not_lt.2 hlow)).trans (if_pos hcrc)))), fun harrived hlow hcrc => ?_⟩
  replace hrule := hrule.trans ((if_neg (Nat.not_lt.2 harrived)).trans
    ((if_neg (Nat.not_lt.2 hlow)).trans (if_neg (not_not.2 hcrc))))
  refine ⟨fun htb => exec_of_raise (hrule.trans (if_pos htb)), fun htbLow htbHigh => ?_⟩
  have htb : ¬ (s.timebase.toNat < 1 ∨ 16777216 < s.timebase.toNat) := by omega
  rw [exec_eq_runCommand, runCommand_of_ok (hrule.trans (if_neg htb))]
  exact congrArg Host.Outcome.next (writePlainHeader_begin_withCrc s flen c)

end Sys2Proof.Machine
end

section
/-! PROOFS. HDR.GENPLAIN (43_header.md R206, R215): its errors, the header it stores, and the way back through
HDR.PARSE. -/

namespace Sys2Proof.Machine

/-! ## The rule by cases -/

/-- The wire time that HDR.GENPLAIN puts into its header, as TIME.TOWIREHP computes it (R206). -/
def State.headerWire (s : State) : WireTime :=
  toWireAtRate s.tSec.toNat s.tNs.toNat s.timebase.toNat s.fps.toNat

/-- The 14 header bytes that HDR.GENPLAIN stores (R206); irreducible, so that comparing states does not run the
store. -/
@[irreducible] def State.plainHeaderImage (s : State) : List Byte :=
  plainImage s.params s.hType s.hVersion s.hFrameLen s.hIdCode s.headerWire.soc s.headerWire.frac s.tq

/-- The state HDR.GENPLAIN's rule leaves when its checks pass (R215). -/
def State.withGeneratedPlain (s : State) : State :=
  { (s.writeBytes s.src.toNat s.plainHeaderImage).setHdrLenValid true with
    hSoc := BitVec.ofNat 32 s.headerWire.soc
    hFracSec := BitVec.ofNat 32 (s.tq.toNat * 2 ^ 24 + s.headerWire.frac)
    hHdrLen := 14
    hFormat := 1 }

/-- HDR.GENPLAIN's rule by cases, in the order of R215. -/
theorem hdrGenPlainBody_eq (s : State) :
    hdrGenPlainBody s =
      if s.params.bufSize < s.src.toNat + 14 then .error (.raise outOfBounds)
      else if s.hType ∉ [s.params.ftData, s.params.ftCfg, s.params.ftCmd] then
        .error (.raise (.protocol .unknownFrameType (s.hType.setWidth 8)))
      else if s.hFrameLen.toNat < 14 ∨ s.timebase.toNat < 1 ∨ 16777216 < s.timebase.toNat ∨
          1000000000 ≤ s.tNs.toNat then .error (.raise (.plain .badArgument))
      else .ok s.withGeneratedPlain := by
  have hlegal : legalFrameType s.params s.hType = false ↔
      s.hType ∉ [s.params.ftData, s.params.ftCfg, s.params.ftCmd] := by
    rw [← Bool.not_eq_true, not_congr (legalFrameType_iff _ _)]
  unfold hdrGenPlainBody
  by_cases hout : s.params.bufSize < s.src.toNat + 14
  · rw [raiseIf_pos (show ¬ InBuf s s.src.toNat Config.plainHdrLen from Nat.not_le.2 hout), if_pos hout,
      Except.error_bind']
  rw [raiseIf_neg (show ¬ ¬ InBuf s s.src.toNat Config.plainHdrLen from not_not.2 (Nat.not_lt.1 hout)), if_neg hout,
    Except.ok_bind']
  by_cases htype : s.hType ∉ [s.params.ftData, s.params.ftCfg, s.params.ftCmd]
  · rw [raiseIf_pos (hlegal.2 htype), if_pos htype, Except.error_bind']
  rw [raiseIf_neg (mt hlegal.1 htype), if_neg htype, Except.ok_bind']
  by_cases hshort : s.hFrameLen.toNat < 14
  · rw [raiseIf_pos (show _ < Config.plainHdrLen from hshort), if_pos (.inl hshort), Except.error_bind']
  rw [raiseIf_neg (show ¬ _ < Config.plainHdrLen from hshort), Except.ok_bind']
  by_cases htime : s.timebase.toNat < 1 ∨ 16777216 < s.timebase.toNat ∨ 1000000000 ≤ s.tNs.toNat
  · rw [if_pos (.inr htime)]
    exact timeOperands_error htime
  · rw [if_neg (not_or.2 ⟨hshort, htime⟩), checkTimebase_ok (by omega), Except.ok_bind', checkNanos_ok (by omega),
      State.withGeneratedPlain, State.plainHeaderImage]
    rfl

/-! ## The stored header -/

@[simp] theorem State.length_plainHeaderImage (s : State) : s.plainHeaderImage.length = 14 := by
  simp [State.plainHeaderImage, plainImage]

/-- A legal timebase and T_NS give a fraction of 24 bits (R173). -/
theorem State.headerWire_lt {s : State} (hlow : 1 ≤ s.timebase.toNat) (hhigh : s.timebase.toNat ≤ 16777216)
    (hns : s.tNs.toNat < 1000000000) : s.headerWire.soc < 2 ^ 32 ∧ s.headerWire.frac < 2 ^ 24 :=
  ⟨toWireAtRate_soc_lt s.tSec.isLt, Nat.lt_of_lt_of_le (toWireAtRate_frac_lt hlow hns) hhigh⟩

theorem State.withGeneratedPlain_stores (s : State) :
    StoresAt s (s.withGeneratedPlain.setRes resOk) s.src.toNat s.plainHeaderImage := storesAt_of_buf rfl rfl

/-- Where BUF holds the 14 bytes of a generated plain header, its fields read back (R200 to R202). -/
theorem HoldsAt.plainHeader {s t : State} {b : Nat} (h : HoldsAt t b s.plainHeaderImage)
    (hsoc : s.headerWire.soc < 2 ^ 32) (hfrac : s.headerWire.frac < 2 ^ 24) :
    t.byteAt b = s.params.syncByte ∧ t.byteAt (b + 1) = 0#1 ++ s.hType ++ s.hVersion ∧
    t.memRead (b + 2) 2 = s.hFrameLen.toNat ∧ t.memRead (b + 4) 2 = s.hIdCode.toNat ∧
    t.memRead (b + 6) 4 = s.headerWire.soc ∧ t.byteAt (b + 10) = s.tq ∧
    t.memRead (b + 11) 3 = s.headerWire.frac := by
  rw [State.plainHeaderImage, plainImage_eq _ _ _ _ _ _ _ hfrac] at h
  simp only [holdsAt_append, holdsAt_cons, holdsAt_nil, List.length_append, List.length_cons, List.length_nil,
    length_beBytes, Nat.add_assoc, Nat.reduceAdd, and_true, and_assoc] at h
  obtain ⟨hsync, htype, hlen, hid, hseconds, hquality, hfraction⟩ := h
  exact ⟨hsync, htype, hlen.memRead s.hFrameLen.isLt, hid.memRead s.hIdCode.isLt, hseconds.memRead hsoc, hquality,
    hfraction.memRead hfrac⟩

/-- Settles O54: the wire time is the one that TIME.TOWIREHP stores, on the same operands. -/
theorem genPlainStoresHeader : Obligations.GenPlainStoresHeader := by
  rintro s _ rfl
  have hrule : Instr.rule .hdrGenPlain s.begin = _ := hdrGenPlainBody_eq s.begin
  refine ⟨fun hin htype hlen hlow hhigh hns => ?_, fun hout => exec_of_raise (hrule.trans (if_pos hout)),
    fun hin htype => exec_of_raise (hrule.trans ((if_neg (Nat.not_lt.2 hin)).trans (if_pos htype))),
    fun hin htype hbad => exec_of_raise (hrule.trans ((if_neg (Nat.not_lt.2 hin)).trans
      ((if_neg (not_not.2 htype)).trans (if_pos hbad))))⟩
  have hlegal : ¬ (s.hFrameLen.toNat < 14 ∨ s.timebase.toNat < 1 ∨ 16777216 < s.timebase.toNat ∨
      1000000000 ≤ s.tNs.toNat) := by omega
  replace hrule := hrule.trans ((if_neg (Nat.not_lt.2 hin)).trans ((if_neg (not_not.2 htype)).trans (if_neg hlegal)))
  obtain ⟨hsoc, hfrac⟩ := State.headerWire_lt hlow hhigh hns
  have hwire : Instr.rule .timeToWireHp s.begin = .ok (s.begin.setWire s.headerWire) :=
    toWireHpBody_eq_ok_iff.2 ⟨⟨hlow, hhigh⟩, hns, rfl⟩
  obtain ⟨hheld, hkept⟩ := s.begin.withGeneratedPlain_stores
  rw [State.length_plainHeaderImage] at hkept
  obtain ⟨hsync, hbyte, hflen, hid, hseconds, hquality, hfraction⟩ := HoldsAt.plainHeader hheld hsoc hfrac
  have hvalid : s.begin.withGeneratedPlain.hdrLenValid = true := State.setHdrLenValid_hdrLenValid _ true
  have hsig : s.begin.withGeneratedPlain.sigFail = false :=
    (State.setHdrLenValid_sigFail _ true).trans s.begin_sigFail
  have hwSoc : (BitVec.ofNat 32 s.headerWire.soc).toNat = s.headerWire.soc := Nat.mod_eq_of_lt hsoc
  have hwFrac : (BitVec.ofNat 32 s.headerWire.frac).toNat = s.headerWire.frac := Nat.mod_eq_of_lt (by omega)
  refine ⟨_, _, (exec_eq_runCommand ..).trans (runCommand_of_ok hrule), exec_of_ok hwire rfl, ?_, hsync, hbyte, hflen,
    hid, hseconds.trans hwSoc.symm, hquality, hfraction.trans hwFrac.symm, hkept⟩
  rw [State.setRes_eq_with, hvalid, hsig]
  simp only [State.withGeneratedPlain, State.setWire_wSoc, State.setWire_wFrac, ← fracSec_eq _ hfrac]
  rfl

/-! ## The way back through HDR.PARSE -/

/-- s is a state in which HDR.GENPLAIN has made a header at SRC, and whose header registers are still those of it
(R200 to R202, R206, R215). -/
structure GeneratedPlain (s : State) : Prop where
  typeLegal : s.hType ∈ [s.params.ftData, s.params.ftCfg, s.params.ftCmd]
  lengthLow : 14 ≤ s.hFrameLen.toNat
  timebase : 1 ≤ s.timebase.toNat ∧ s.timebase.toNat ≤ 16777216
  status : s.status = statusOf true false resOk
  format : s.hFormat = 1
  hdrLen : s.hHdrLen = 14
  quality : s.hFracSec.extractLsb' 24 8 = s.tq
  syncByte : s.byteAt s.src.toNat = s.params.syncByte
  typeByte : s.byteAt (s.src.toNat + 1) = 0#1 ++ s.hType ++ s.hVersion
  frameLenField : s.memRead (s.src.toNat + 2) 2 = s.hFrameLen.toNat
  idCodeField : s.memRead (s.src.toNat + 4) 2 = s.hIdCode.toNat
  socField : s.memRead (s.src.toNat + 6) 4 = s.hSoc.toNat
  fracSecField : s.memRead (s.src.toNat + 10) 4 = s.hFracSec.toNat

/-- The quality byte and a 24-bit fraction, read as one field (R202, R63). -/
theorem State.memRead_fracSec {s : State} {a : Nat} {frac : Word} (h : s.memRead (a + 1) 3 = frac.toNat) :
    s.memRead a 4 = (s.byteAt a ++ frac.extractLsb' 0 24).toNat := by
  have hfrac : frac.toNat < 2 ^ 24 := h ▸ s.memRead_lt (a + 1) 3
  have hquality := (s.byteAt a).isLt
  have hword := fracSec_eq (s.byteAt a) hfrac
  rw [BitVec.ofNat_toNat, BitVec.setWidth_eq] at hword
  rw [memReadSplitsBigEndian s a 1 3, State.memRead_one, h, ← hword, BitVec.toNat_ofNat]
  omega

/-- HDR.GENPLAIN that ends with RES = OK makes a header (R215). -/
theorem hdrGenPlain_generates {s t : State} (h : exec .hdrGenPlain s = .next t) (hok : t.res = resOk) :
    GeneratedPlain t ∧ t.hFrameLen = s.hFrameLen := by
  obtain ⟨hdone, hout, htype, hbad⟩ := genPlainStoresHeader s _ rfl
  replace hout := Nat.not_lt.1 fun hlt => res_ne_ok_of_error h (hout hlt) hok
  replace htype := not_not.1 fun hne => res_ne_ok_of_error h (htype hout hne) hok
  replace hbad : ¬ (_ ∨ _ ∨ _ ∨ _) := fun hor => res_ne_ok_of_error h (hbad hout htype hor) hok
  simp only [not_or, Nat.not_lt, Nat.not_le] at hbad
  obtain ⟨hlen, hlow, hhigh, hns⟩ := hbad
  obtain ⟨t', w, ht', -, hframe, hsync, hbyte, hlenField, hid, hsoc, hquality, hfrac, -⟩ :=
    hdone hout htype hlen hlow hhigh hns
  obtain rfl : t' = t := Host.Outcome.next.inj (ht'.symm.trans h)
  have hfracSec := State.memRead_fracSec hfrac
  rw [hquality] at hfracSec
  generalize t'.buf = buf at hframe
  subst hframe
  refine ⟨?_, rfl⟩
  exact {
    typeLegal := htype, lengthLow := hlen, timebase := ⟨hlow, hhigh⟩, status := rfl, format := rfl, hdrLen := rfl
    quality := BitVec.extractLsb'_append_eq_left
    syncByte := hsync, typeByte := hbyte, frameLenField := hlenField, idCodeField := hid, socField := hsoc
    fracSecField := hfracSec }

/-- LEN is no part of a generated header. -/
theorem GeneratedPlain.withLen {s : State} (h : GeneratedPlain s) (n : Word) : GeneratedPlain { s with len := n } := by
  have hread : State.memRead { s with len := n } = s.memRead := State.memRead_eq rfl rfl
  exact { h with
    frameLenField := hread ▸ h.frameLenField
    idCodeField := hread ▸ h.idCodeField
    socField := hread ▸ h.socField
    fracSecField := hread ▸ h.fracSecField }

/-- The type code is above the version in its byte (R202). -/
theorem typeCode_append (t : BitVec 3) (v : BitVec 4) : (0#1 ++ t ++ v).extractLsb' 4 3 = t := by
  revert t v
  decide

section
variable {s : State} (h : GeneratedPlain s)
include h

/-- A generated header whose frame is present is one that HDR.PARSE accepts (R203). -/
theorem GeneratedPlain.plainFrame (hin : s.src.toNat + s.len.toNat ≤ s.params.bufSize)
    (harrived : s.hFrameLen.toNat ≤ s.len.toNat) : PlainFrame s s.hFrameLen.toNat where
  inBuf := hin
  header := Nat.le_trans h.lengthLow harrived
  sync := h.syncByte
  typeLegal := by
    rw [h.typeByte, typeCode_append]
    exact h.typeLegal
  length := h.frameLenField.symm
  lengthLow := h.lengthLow
  arrived := harrived
  timebase := h.timebase

/-- HDR.PARSE reads from a generated header what the registers hold already, the timestamp aside (R203, R206). -/
theorem GeneratedPlain.withPlainHeader_eq : s.withPlainHeader s.hFrameLen.toNat = { s with
    tSec := (s.withPlainHeader s.hFrameLen.toNat).tSec, tNs := (s.withPlainHeader s.hFrameLen.toNat).tNs } := by
  simp only [State.withPlainHeader, h.typeByte, typeCode_append, BitVec.extractLsb'_append_eq_right, h.idCodeField,
    h.socField, h.fracSecField, h.quality, ← h.status, ← h.format, ← h.hdrLen, BitVec.ofNat_toNat, BitVec.setWidth_eq]

end

/-- Settles O58: LEN aside, the parse starts from the state that HDR.GENPLAIN left. -/
theorem generatedPlainHeaderParsesBack : Obligations.GeneratedPlainHeaderParsesBack := by
  intro s t n h hok hlen hin
  obtain ⟨hgen, hframeLen⟩ := hdrGenPlain_generates h hok
  have howned := exec_hostOwned h
  have hsrc : t.src = s.src := congrArg HostOwned.src howned
  have hparams : t.params = s.params := congrArg HostOwned.params howned
  rw [← hframeLen] at hlen
  rw [← hsrc, ← hparams] at hin
  have hgen' := hgen.withLen n
  exact ⟨_, parsePlainWritesHeaderRegisters _ _ (hgen'.plainFrame hin hlen), hgen'.withPlainHeader_eq⟩

end Sys2Proof.Machine
end

section
/-! PROOFS. HDR.GENSESSION (43_header.md R210, R216, R217): its errors in order, and the header it stores. -/

namespace Sys2Proof.Machine

/-! ## Lengths in the terms of claims -/

/-- The two spellings of the minimal length header agree on every length, past 65535 too. -/
theorem length_lenHdrBytes_eq (n : Nat) : (lenHdrBytes n).length = (minimalHeader n).length := by
  rw [length_lenHdrBytes, length_minimalHeader]

theorem svInner_eq (p : Params) (l : Nat) : svInner p l = 3 + (1 + (minimalHeader l).length) + l := by
  rw [svInner, seqHeader, List.length_cons, length_lenHdrBytes_eq, Nat.add_comm 1]

/-- The payload end of a generated frame: the header and the body are the 38 fixed bytes, the SvPdu tag and length
header, and what they declare (R216). -/
theorem genHdrLen_add (p : Params) (l : Nat) :
    genHdrLen p l + l = 38 + (1 + (minimalHeader (svInner p l)).length) + svInner p l := by
  rw [genHdrLen, svHeader, List.length_cons, length_lenHdrBytes_eq]
  generalize (minimalHeader (svInner p l)).length = n
  rw [svInner]
  omega

/-! ## The errors of GenSession -/

/-- The error of the first failing check of GenSession once its two algorithm codes are legal, for a frame of length
total; no error when it answers (R216). -/
def genSessionError? (s : State) (alg : SigAlg) (total : Nat) : Option CmdError :=
  if s.sAsduCount = 0 then some (.protocol .emptyAsduSequence 0)
  else if 65535 < s.sBodyLen.toNat ∨ 65535 < svInner s.params s.sBodyLen.toNat then some (.plain .valueTooLarge)
  else if 65535 < total then some (.plain .lengthOverflow)
  else if total < s.sCltpLen.toNat + 8 + alg.trailerLen then some (.plain .badArgument)
  else none

section
variable {s : State}

theorem genSession_of_illegal_sec (h : s.sSecAlg ∉ s.params.secCodes) :
    genSession s = .error (.raise (.protocol .unsupportedSecurityAlgorithm s.sSecAlg)) := by
  rw [genSession, checkSecAlg, raiseIf_pos h, Except.error_bind']

variable (hsec : s.sSecAlg ∈ s.params.secCodes)
include hsec

theorem genSession_of_illegal_sig (h : sigAlgOf s.params s.sSigAlg = none) :
    genSession s = .error (.raise (.protocol .unsupportedSignatureAlgorithm s.sSigAlg)) := by
  rw [genSession, (checkSecAlg_eq_ok_iff (u := ())).2 hsec, Except.ok_bind', legalSigAlg_of_none h, Except.error_bind']

variable {alg : SigAlg} {total : Nat} (hsig : sigAlgOf s.params s.sSigAlg = some alg)
  (htotal : total = genHdrLen s.params s.sBodyLen.toNat + s.sBodyLen.toNat + alg.trailerLen)
include hsig htotal

theorem genSession_of_error {e : CmdError} (h : genSessionError? s alg total = some e) :
    genSession s = .error (.raise e) := by
  unfold genSessionError? at h
  rw [genSession, (checkSecAlg_eq_ok_iff (u := ())).2 hsec, Except.ok_bind', legalSigAlg_eq_ok_iff.2 hsig,
    Except.ok_bind']
  dsimp only
  rw [← htotal]
  by_cases hcount : s.sAsduCount = 0
  · rw [if_pos hcount] at h
    cases h
    rw [raiseIf_pos hcount, Except.error_bind']
  rw [if_neg hcount] at h
  rw [raiseIf_neg hcount, Except.ok_bind']
  by_cases hbody : 65535 < s.sBodyLen.toNat
  · rw [if_pos (.inl hbody)] at h
    cases h
    rw [raiseIf_pos hbody, Except.error_bind']
  rw [raiseIf_neg hbody, Except.ok_bind']
  by_cases hinner : 65535 < svInner s.params s.sBodyLen.toNat
  · rw [if_pos (.inr hinner)] at h
    cases h
    rw [raiseIf_pos hinner, Except.error_bind']
  rw [if_neg (not_or.2 ⟨hbody, hinner⟩)] at h
  rw [raiseIf_neg hinner, Except.ok_bind']
  by_cases hlong : 65535 < total
  · rw [if_pos hlong] at h
    cases h
    rw [raiseIf_pos hlong, Except.error_bind']
  rw [if_neg hlong] at h
  rw [raiseIf_neg hlong, Except.ok_bind']
  by_cases hshort : total < s.sCltpLen.toNat + 8 + alg.trailerLen
  · rw [if_pos hshort] at h
    cases h
    rw [raiseIf_pos hshort, Except.error_bind']
  · rw [if_neg hshort] at h
    cases h

end

/-! ## From GenSession to HDR.GENSESSION -/

theorem hdrGenSessionBody_of_error {s : State} {x : Stop} (h : genSession s = .error x) :
    hdrGenSessionBody s = .error x := by
  rw [hdrGenSessionBody, h, Except.error_bind']

theorem hdrGenSessionBody_of_out {s : State} {g : SessionImage} (h : genSession s = .ok g)
    (hout : s.params.bufSize < s.src.toNat + g.total) : hdrGenSessionBody s = .error (.raise outOfBounds) := by
  rw [hdrGenSessionBody, h, Except.ok_bind', raiseIf_pos (Nat.not_le.2 hout), Except.error_bind']

theorem hdrGenSessionBody_of_fits {s : State} {g : SessionImage} (h : genSession s = .ok g)
    (hin : s.src.toNat + g.total ≤ s.params.bufSize) : hdrGenSessionBody s = .ok (s.withGenerated g) := by
  rw [hdrGenSessionBody, h, Except.ok_bind', raiseIf_neg (not_not.2 hin)]
  rfl

/-- What GenSession answers on legal operands (R216). -/
theorem GenOperands.genSession_ok {s : State} {alg : SigAlg} {total : Nat} (h : GenOperands s alg total) :
    ∃ g, genSession s = .ok g ∧ g.image = sessionImage s g.spdu g.payLen g.asduLen ∧
      g.hdrLen = genHdrLen s.params s.sBodyLen.toNat ∧ g.total = total ∧
      g.spdu = total - s.sCltpLen.toNat - 8 - alg.trailerLen ∧ g.payLen = total - alg.trailerLen - 32 ∧
      g.asduLen = total - alg.trailerLen - 38 :=
  ⟨_, genSession_eq_ok_iff.2 ⟨alg, total, h, rfl⟩, rfl, rfl, rfl, rfl, rfl, rfl⟩

theorem GenOperands.begin {s : State} {alg : SigAlg} {total : Nat} (h : GenOperands s alg total) :
    GenOperands s.begin alg total := { h with }

/-- Settles O56: each clause is one failing check, with the checks before it passed. -/
theorem genSessionRefusesInOrder : Obligations.GenSessionRefusesInOrder := by
  rintro s _ _ rfl rfl
  rw [← svInner_eq s.params]
  refine ⟨fun hsec => exec_of_raise (hdrGenSessionBody_of_error (genSession_of_illegal_sec (s := s.begin) hsec)),
    fun hsec hsig => exec_of_raise (hdrGenSessionBody_of_error (genSession_of_illegal_sig (s := s.begin) hsec hsig)),
    fun alg total hsec hsig htotal => ?_⟩
  rw [← genHdrLen_add] at htotal
  have hraise {e : CmdError} (h : genSessionError? s alg total = some e) :
      exec .hdrGenSession s = .next (s.errorState e) :=
    exec_of_raise (hdrGenSessionBody_of_error (genSession_of_error (s := s.begin) hsec hsig htotal h))
  refine ⟨fun hcount => hraise (if_pos hcount), fun hcount => ⟨fun hlarge => hraise ?_, fun hbody hinner => ?_⟩⟩
  · exact (if_neg hcount).trans (if_pos hlarge)
  have hpassed : genSessionError? s alg total = _ :=
    (if_neg hcount).trans (if_neg (not_or.2 ⟨Nat.not_lt.2 hbody, Nat.not_lt.2 hinner⟩))
  refine ⟨fun hlong => hraise ?_, fun hlong hshort => hraise ?_, fun hlong hshort hout => ?_⟩
  · exact hpassed.trans (if_pos hlong)
  · exact hpassed.trans ((if_neg (Nat.not_lt.2 hlong)).trans (if_pos hshort))
  · have hops : GenOperands s alg total := ⟨hsec, hsig, hcount, hbody, hinner, htotal, hlong, hshort⟩
    obtain ⟨g, hg, -, -, hgtotal, -⟩ := hops.begin.genSession_ok
    exact exec_of_raise (hdrGenSessionBody_of_out hg (hgtotal ▸ hout))

/-! ## The stored header -/

/-- The state HDR.GENSESSION leaves when GenSession answers g, as a record update (R217). -/
theorem withGenerated_begin (s : State) (g : SessionImage) : (s.begin.withGenerated g).setRes resOk = { s with
    status := statusOf true false resOk
    sSpduLen := BitVec.ofNat 32 g.spdu
    sVersion := 1
    sPayLen := BitVec.ofNat 32 g.payLen
    sAsduLen := BitVec.ofNat 16 g.asduLen
    hFrameLen := BitVec.ofNat 16 g.total
    hHdrLen := BitVec.ofNat 16 g.hdrLen
    hFormat := 2
    hType := s.params.ftData
    buf := ((s.begin.withGenerated g).setRes resOk).buf } := by
  have hvalid : (s.begin.withGenerated g).hdrLenValid = true := State.setHdrLenValid_hdrLenValid _ true
  have hsig : (s.begin.withGenerated g).sigFail = false :=
    (State.setHdrLenValid_sigFail _ true).trans s.begin_sigFail
  rw [State.setRes_eq_with, hvalid, hsig]
  rfl

theorem State.withGenerated_stores (s : State) (g : SessionImage) (r : BitVec 2) :
    StoresAt s ((s.withGenerated g).setRes r) s.src.toNat g.image := storesAt_of_buf rfl rfl

/-- The session header that HDR.GENSESSION leaves in BUF has the fields of the registers it leaves (R210, R217). -/
theorem holdsSessionHeader_withGenerated {s : State} {g : SessionImage} {r : BitVec 2} (hspdu : g.spdu < 2 ^ 32)
    (hpay : g.payLen < 2 ^ 32) (hasdu : g.asduLen < 2 ^ 16)
    (himage : g.image = sessionImage s g.spdu g.payLen g.asduLen) :
    HoldsSessionHeader ((s.withGenerated g).setRes r) s.src.toNat := by
  obtain ⟨hheld, -⟩ := s.withGenerated_stores g r
  refine holdsSessionHeader_of_image ?_
  have hspdu' : ((s.withGenerated g).setRes r).sSpduLen.toNat = g.spdu := Nat.mod_eq_of_lt hspdu
  have hpay' : ((s.withGenerated g).setRes r).sPayLen.toNat = g.payLen := Nat.mod_eq_of_lt hpay
  have hasdu' : ((s.withGenerated g).setRes r).sAsduLen.toNat = g.asduLen := Nat.mod_eq_of_lt hasdu
  rw [hspdu', hpay', hasdu']
  exact himage ▸ hheld

/-- The ASDU part of a session header, whole (R210, R216). -/
theorem HoldsSessionHeader.asduBytes {s : State} {b : Nat} (h : HoldsSessionHeader s b) :
    s.bytesAt (b + 38) (genHdrLen s.params s.sBodyLen.toNat - 38) = svHeader s.params s.sBodyLen.toNat ++
      countTlv s.params s.sAsduCount ++ seqHeader s.params s.sBodyLen.toNat := by
  have hheld : HoldsAt s (b + 38) (svHeader s.params s.sBodyLen.toNat ++ countTlv s.params s.sAsduCount ++
      seqHeader s.params s.sBodyLen.toNat) :=
    holdsAt_append.2 ⟨holdsAt_append.2 ⟨h.svPdu, h.count⟩, by
      rw [List.length_append, ← Nat.add_assoc]
      exact h.seq⟩
  have hlength : (svHeader s.params s.sBodyLen.toNat ++ countTlv s.params s.sAsduCount ++
      seqHeader s.params s.sBodyLen.toNat).length = genHdrLen s.params s.sBodyLen.toNat - 38 := by
    rw [List.length_append, List.length_append, genHdrLen, show (countTlv s.params s.sAsduCount).length = 3 from rfl]
    omega
  rw [← hlength]
  exact hheld

/-- The first six bytes of a generated header are fixed by the parameters and S_CLTPLEN (R210). -/
theorem take_sessionImage (s : State) (spdu payLen asduLen : Nat) : (sessionImage s spdu payLen asduLen).take 6 =
    [s.sCltpLen, s.params.cltpTag, 0xA2, 0x18, s.params.rsv0, s.params.rsv1] := by
  simp only [sessionImage, List.append_assoc, List.cons_append, List.take_succ_cons, List.take_zero]
  rfl

/-- Settles O55. -/
theorem genSessionStoresHeader : Obligations.GenSessionStoresHeader := by
  rintro s alg _ _ inner hdrLen total sq sv rfl rfl hsq hinner hsv hhdrLen htotal hsec hsig hcount hbody hinnerLow hlow
    hhigh hin
  obtain rfl : seqHeader s.params s.sBodyLen.toNat = sq := by rw [hsq, seqHeader, lenHdrBytes_eq hbody]
  obtain rfl : svInner s.params s.sBodyLen.toNat = inner := hinner.symm
  obtain rfl : svHeader s.params s.sBodyLen.toNat = sv := by rw [hsv, svHeader, lenHdrBytes_eq hinnerLow]
  obtain rfl : genHdrLen s.params s.sBodyLen.toNat = hdrLen := hhdrLen.symm
  have hops : GenOperands s.begin alg total :=
    GenOperands.begin ⟨hsec, hsig, hcount, hbody, hinnerLow, htotal, hlow, hhigh⟩
  obtain ⟨g, hg, himage, hghdr, hgtotal, hspdu, hpay, hasdu⟩ := hops.genSession_ok
  have hframe := withGenerated_begin s g
  rw [hspdu, hpay, hasdu, hgtotal, hghdr] at hframe
  have hbytes := bytesAt_of_buf (s := s.begin) (t := (s.begin.withGenerated g).setRes resOk) rfl rfl 0 6
    (by rw [himage, length_sessionImage, genHdrLen]; omega)
  rw [himage, List.drop_zero, take_sessionImage] at hbytes
  have hhdr := holdsSessionHeader_withGenerated (r := resOk) (by omega) (by omega) (by omega) himage
  obtain ⟨-, hkept⟩ := s.begin.withGenerated_stores g resOk
  rw [himage, length_sessionImage] at hkept
  have hspdu' : (BitVec.ofNat 32 g.spdu).toNat = g.spdu := Nat.mod_eq_of_lt (by omega)
  have hpay' : (BitVec.ofNat 32 g.payLen).toNat = g.payLen := Nat.mod_eq_of_lt (by omega)
  have hasdu' : (BitVec.ofNat 16 g.asduLen).toNat = g.asduLen := Nat.mod_eq_of_lt (by omega)
  exact ⟨_, (exec_eq_runCommand ..).trans (runCommand_of_ok (hdrGenSessionBody_of_fits hg (hgtotal ▸ hin))), hframe,
    hbytes, hhdr.spduLen.trans (hspdu'.trans hspdu), hhdr.pktNum, hhdr.version, hhdr.keyTime0, hhdr.keyTime1,
    hhdr.secAlg, hhdr.sigAlg, hhdr.keyId, hhdr.payLen.trans (hpay'.trans hpay), hhdr.payloadType, hhdr.sim, hhdr.appId,
    hhdr.asduLen.trans (hasdu'.trans hasdu), hhdr.asduBytes, hkept⟩

end Sys2Proof.Machine
end

section
/-! PROOFS. The decoding commands read only the available bytes at SRC (43_header.md R191): each rule commutes with a
change of BUF outside them. -/

namespace Sys2Proof.Machine

/-! ## Another BUF -/

/-- s with another BUF. -/
def State.withBuf (s : State) (m : Memory) : State := { s with buf := m }

/-- A command whose rule, run on another BUF, answers the same but for BUF ends the same but for BUF. -/
theorem exec_withBuf {i : Instr} {s t : State} {m : Memory}
    (hrule : i.rule (s.withBuf m).begin = (i.rule s.begin).map (·.withBuf m)) (h : exec i s = .next t) :
    exec i (s.withBuf m) = .next (t.withBuf m) := by
  rcases exec_cases h with ⟨u, hu, rfl⟩ | ⟨n, hn, rfl⟩ | ⟨e, he, rfl⟩
  · rw [hu] at hrule
    rw [exec_eq_runCommand, runCommand_of_ok hrule]
    rfl
  · rw [hn] at hrule
    exact exec_of_need hrule
  · rw [he] at hrule
    exact exec_of_raise hrule

/-- The pseudocode's answers on another BUF, step by step. -/
theorem bind_map_congr {α : Type} {x x' : Except Stop α} {f f' : α → Except Stop State} {g : State → State}
    (hx : x' = x) (hf : ∀ a, x = .ok a → f' a = (f a).map g) : (x' >>= f') = (x >>= f).map g := by
  subst hx
  cases h : x' with
  | error e => rfl
  | ok a => exact hf a h

/-! ## The rules -/

section
variable {s : State} {m : Memory} {b n : Nat} (h : SameBytes s (s.withBuf m) b n)
include h

/-- Detection reads two bytes that are present (R192). -/
theorem SameBytes.detect_congr : detect (s.withBuf m) b n = detect s b n := by
  rw [detect_eq, detect_eq]
  by_cases hshort : n < 2
  · rw [if_pos hshort, if_pos hshort]
  · rw [if_neg hshort, if_neg hshort, h.byteAt_congr (by omega) (by omega), h.byteAt_congr (by omega) (by omega)]
    rfl

/-- The register writes of a plain header come from its 14 bytes (R203). -/
theorem SameBytes.writePlainHeader_congr (hn : 14 ≤ n) (flen : Nat) :
    writePlainHeader (s.withBuf m) b flen = (writePlainHeader s b flen).withBuf m := by
  unfold writePlainHeader
  rw [h.memRead_congr (by omega) (by omega), h.memRead_congr (by omega) (by omega),
    h.memRead_congr (by omega) (by omega), h.byteAt_congr (by omega) (by omega)]
  rfl

/-- The plain parse reads the 14 bytes of the header (R203). -/
theorem SameBytes.parsePlain_congr : parsePlain (s.withBuf m) b n = (parsePlain s b n).map (·.withBuf m) := by
  unfold parsePlain
  refine bind_map_congr rfl fun _ hhdr => ?_
  have hn : 14 ≤ n := Nat.not_lt.1 (needIf_eq_ok_iff.1 hhdr)
  rw [h.byteAt_congr (by omega) (by omega), h.memRead_congr (by omega) (by omega)]
  dsimp only
  rw [h.writePlainHeader_congr hn]
  exact bind_map_congr rfl fun _ _ => bind_map_congr rfl fun _ _ => bind_map_congr rfl fun _ _ =>
    bind_map_congr rfl fun _ _ => bind_map_congr rfl fun _ _ => rfl

end

section
variable {s : State} {m : Memory} (h : SameBytes s (s.withBuf m) s.src.toNat s.len.toNat)
include h

theorem SameBytes.hdrDetectBody_congr : hdrDetectBody (s.withBuf m) = (hdrDetectBody s).map (·.withBuf m) :=
  bind_map_congr rfl fun _ _ => bind_map_congr h.detect_congr fun _ _ => rfl

theorem SameBytes.hdrParseBody_congr : hdrParseBody (s.withBuf m) = (hdrParseBody s).map (·.withBuf m) := by
  refine bind_map_congr rfl fun _ _ => bind_map_congr h.detect_congr fun fmt _ => ?_
  cases fmt with
  | plain => exact h.parsePlain_congr
  | session => exact bind_map_congr (h.parseSession_congr rfl rfl rfl) fun _ _ => rfl

/-- HDR.CMDCHECK reads the header once 14 bytes are present, and the frame once it lies in them (R219). -/
theorem SameBytes.hdrCmdCheckBody_congr : hdrCmdCheckBody (s.withBuf m) = (hdrCmdCheckBody s).map (·.withBuf m) := by
  have hsrc : (s.withBuf m).src = s.src := rfl
  have hlen : (s.withBuf m).len = s.len := rfl
  unfold hdrCmdCheckBody
  rw [hsrc, hlen]
  dsimp only
  refine bind_map_congr rfl fun _ _ => bind_map_congr rfl fun _ hhdr => ?_
  have hn : 14 ≤ s.len.toNat := Nat.not_lt.1 (raiseIf_eq_ok_iff.1 hhdr)
  rw [h.byteAt_congr (by omega) (by omega), h.byteAt_congr (by omega) (by omega), h.memRead_congr (by omega) (by omega)]
  refine bind_map_congr rfl fun _ _ => bind_map_congr rfl fun _ _ => bind_map_congr rfl fun _ harrived =>
    bind_map_congr rfl fun _ hlow => ?_
  replace harrived := Nat.not_lt.1 (raiseIf_eq_ok_iff.1 harrived)
  replace hlow := Nat.not_lt.1 (raiseIf_eq_ok_iff.1 hlow)
  rw [h.bytesAt_congr (by omega) (by omega), h.memRead_congr (by omega) (by omega), h.writePlainHeader_congr hn]
  exact bind_map_congr rfl fun _ _ => bind_map_congr rfl fun _ _ => rfl

end

/-- Settles O60: the session parse's part is what the laws of locality say of it. -/
theorem decodersReadOnlyAvailableBytes : Obligations.DecodersReadOnlyAvailableBytes := by
  intro i s s' t hi hs' hbytes h
  generalize s'.buf = m at hs' ⊢
  subst hs'
  have hsame : SameBytes s.begin (s.begin.withBuf m) s.src.toNat s.len.toNat := ⟨rfl, hbytes⟩
  refine exec_withBuf ?_ h
  rcases hi with rfl | rfl | rfl
  · exact hsame.hdrDetectBody_congr
  · exact hsame.hdrParseBody_congr
  · exact hsame.hdrCmdCheckBody_congr

end Sys2Proof.Machine
end

section
/-! PROOFS. The outcomes of commands (60_exceptions.md R234, R236, R237): a completed rule keeps SIGFAIL unless it
checks a signature, and an error that ERR names is one its rule raised. -/

namespace Sys2Proof.Machine

/-! ## Which rules keep SIGFAIL -/

/-- A rule that keeps STATUS keeps SIGFAIL. -/
theorem State.sigFail_congr {s t : State} (h : t.status = s.status) : t.sigFail = s.sigFail := by
  rw [State.sigFail, h, State.sigFail]

/-- Setting HDRLEN_VALID is all a rule that reads or writes a header does to STATUS. -/
theorem State.sigFail_of_status_setHdrLenValid {s t : State} {b : Bool}
    (h : t.status = (s.setHdrLenValid b).status) : t.sigFail = s.sigFail :=
  (State.sigFail_congr h).trans (s.setHdrLenValid_sigFail b)

/-- A plain header parse sets HDRLEN_VALID (R203). -/
theorem writePlainHeader_status (s : State) (b flen : Nat) :
    (writePlainHeader s b flen).status = (s.setHdrLenValid true).status := by
  obtain ⟨_, _, _, _, _, _, _, _, _, _, h⟩ := writePlainHeader_frame s b flen
  rw [h]

/-- Only SIG.VERIFY and HDR.PARSE write SIGFAIL when they complete (R235, R236). -/
theorem rule_sigFail {i : Instr} {s t : State} (hverify : i ≠ .sigVerify) (hparse : i ≠ .hdrParse)
    (h : i.rule s = .ok t) : t.sigFail = s.sigFail := by
  cases i with
  | sigVerify => exact absurd rfl hverify
  | hdrParse => exact absurd rfl hparse
  | tlvPlen => exact State.sigFail_congr (by rw [plenBody_frame h])
  | tlvVtag _ => exact State.sigFail_congr (by rw [vtagBody_frame h])
  | tlvPbyte _ | tlvPu16 _ | tlvPu24 _ | tlvPu32 _ | tlvPu64 _ =>
    exact State.sigFail_congr (by rw [parseScalarCommand_frame h])
  | tlvPstr _ => exact State.sigFail_congr (by rw [pstrBody_frame h])
  | tlvElen =>
    obtain ⟨_, -, ht⟩ := elenBody_frame h
    exact State.sigFail_congr (by rw [ht]; rfl)
  | tlvEbyte _ | tlvEu16 _ | tlvEu24 _ | tlvEu32 _ | tlvEu64 _ =>
    obtain ⟨_, -, ht⟩ := encodeScalarCommand_frame h
    exact State.sigFail_congr (by rw [ht]; rfl)
  | tlvEstr _ =>
    obtain ⟨_, -, ht⟩ := estrBody_frame h
    exact State.sigFail_congr (by rw [ht]; rfl)
  | tlvEbool => cases h
  | crcCalc => exact State.sigFail_congr (by rw [crcCalcBody_frame h])
  | crcGen =>
    obtain ⟨_, _, -, ht⟩ := crcGenBody_frame h
    exact State.sigFail_congr (by rw [ht]; rfl)
  | crcCheck => exact State.sigFail_congr (by rw [crcCheckBody_frame h])
  | sigGen =>
    obtain ⟨_, _, -, rfl⟩ := sigGenBody_frame h
    rfl
  | timeToWire => exact State.sigFail_congr (by rw [toWireBody_frame h])
  | timeToWireHp => exact State.sigFail_congr (by rw [toWireHpBody_frame h])
  | timeFromWire => exact State.sigFail_congr (by rw [fromWireBody_frame h])
  | timePackRt => exact State.sigFail_congr (by rw [packRtBody_frame h])
  | timeUnpackRt => exact State.sigFail_congr (by rw [unpackRtBody_frame h])
  | hdrDetect => exact State.sigFail_congr (by rw [hdrDetectBody_frame h])
  | hdrGenPlain =>
    obtain ⟨_, -, -, ht⟩ := hdrGenPlainBody_frame h
    exact State.sigFail_of_status_setHdrLenValid (b := true) (by rw [ht]; rfl)
  | hdrGenSession =>
    obtain ⟨_, _, _, -, -, -, ht⟩ := hdrGenSessionBody_frame h
    exact State.sigFail_of_status_setHdrLenValid (b := true) (by rw [ht]; rfl)
  | hdrCmdCheck =>
    refine State.sigFail_of_status_setHdrLenValid (b := true) ?_
    rw [hdrCmdCheckBody_frame h]
    simp only [writePlainHeader_status]

/-! ## The outcomes -/

/-- The OK outcome keeps ERR and NEED, and leaves SIGFAIL 0 unless the command checks a signature (R236). -/
theorem rule_ok_outcome {i : Instr} {s u : State} (h : i.rule s.begin = .ok u) :
    (u.setRes resOk).res = resOk ∧ (u.setRes resOk).err = s.err ∧ (u.setRes resOk).need = s.need ∧
      (i ≠ .sigVerify → i ≠ .hdrParse → (u.setRes resOk).sigFail = false) := by
  have hcompleted := rule_completed h
  refine ⟨u.setRes_res resOk, hcompleted.err, hcompleted.need, fun hverify hparse => ?_⟩
  calc (u.setRes resOk).sigFail
      _ = u.sigFail := u.setRes_sigFail resOk
      _ = s.begin.sigFail := rule_sigFail hverify hparse h
      _ = false := s.begin_sigFail

/-- Settles O6, by the three answers of the command's rule. -/
theorem everyCommandEndsInOneOutcome : Obligations.EveryCommandEndsInOneOutcome := by
  intro i s
  rw [exec_eq_runCommand]
  rcases runCommand_cases i.rule s with ⟨u, hrule, hnext⟩ | ⟨n, -, hnext⟩ | ⟨e, -, hnext⟩
  · exact ⟨_, hnext, .inl (rule_ok_outcome hrule)⟩
  · exact ⟨_, hnext, .inr (.inl ⟨n, rfl⟩)⟩
  · exact ⟨_, hnext, .inr (.inr ⟨e, rfl⟩)⟩

/-- A command that ends with RES = ERROR raised its rule's error. -/
theorem exec_error {i : Instr} {s t : State} (h : exec i s = .next t) (hres : t.res = resError) :
    ∃ e, i.rule s.begin = .error (.raise e) ∧ t = s.errorState e := by
  rcases exec_cases h with ⟨u, -, rfl⟩ | ⟨n, -, rfl⟩ | herror
  · rw [State.setRes_res] at hres
    exact absurd hres (by decide)
  · rw [State.needState_res] at hres
    exact absurd hres (by decide)
  · exact herror

/-- Settles O9: ERR holds the error the rule raised, which its row of R234 lists. -/
theorem onlyListedErrorsAreRaised : Obligations.OnlyListedErrorsAreRaised := by
  intro i s t h hres
  obtain ⟨e, hrule, rfl⟩ := exec_error h hres
  obtain ⟨hlisted, -⟩ := rule_raises_listed i s.begin e hrule
  exact hlisted

end Sys2Proof.Machine
end

section
/-! PROOFS. Reset (10_state.md R58, 70_reset_and_hazards.md R261, R263): the key bytes and the CSRs right after reset,
and the platform reset as a step. -/

namespace Sys2Proof.Machine

/-! ## Key bytes at reset -/

/-- The key bank holds KEYk at index k (R58). -/
theorem getElem_resetKeyBank (k : Fin 16) : resetKeyBank[k] = resetKeyWord k := by
  fin_cases k <;> rfl

/-- KEYk at reset is made of the key bytes 4k to 4k+3, the least significant first (R58). -/
theorem extractLsb'_resetKeyWord (k : Nat) {j : Nat} (hj : j < 4) :
    (resetKeyWord k).extractLsb' (8 * j) 8 = resetKeyByte (4 * k + j) := by
  rw [resetKeyWord]
  match j with
  | 0 => exact BitVec.extractLsb'_append_eq_right
  | 1 =>
    rw [BitVec.extractLsb'_append_eq_of_le (by decide)]
    exact BitVec.extractLsb'_append_eq_right
  | 2 =>
    rw [BitVec.extractLsb'_append_eq_of_le (by decide), BitVec.extractLsb'_append_eq_of_le (by decide)]
    exact BitVec.extractLsb'_append_eq_right
  | 3 =>
    rw [BitVec.extractLsb'_append_eq_of_le (by decide), BitVec.extractLsb'_append_eq_of_le (by decide)]
    exact BitVec.extractLsb'_append_eq_left

/-- Key byte i at reset, read through the KEY registers (R58). -/
theorem keyByte_resetWith (p : Params) {i : Nat} (hi : i < 64) : (State.resetWith p).keyByte i = resetKeyByte i := by
  have hk : i / 4 < 16 := by omega
  have hword : (State.resetWith p).key[i / 4]?.getD 0 = resetKeyWord (i / 4) := by
    rw [Vector.getElem?_eq_getElem hk, Option.getD_some]
    exact getElem_resetKeyBank ⟨i / 4, hk⟩
  rw [State.keyByte, hword, extractLsb'_resetKeyWord _ (Nat.mod_lt i (by decide)), Nat.div_add_mod]

/-! ## The computed and the widened registers at reset -/

/-- LENGTH at reset: H_TYPE is 0 and HDRLEN_VALID is clear (R52). -/
theorem lengthValue_resetWith (p : Params) :
    (State.resetWith p).lengthValue = if p.ftData ≠ 0 then 14 else Config.defaultSessionHdrLen := by
  have hvalid : (State.resetWith p).hdrLenValid = false := show (0 : BitVec 4).getLsbD 3 = false by decide
  have htype : (State.resetWith p).hType ≠ (State.resetWith p).params.ftData ↔ p.ftData ≠ 0 := ne_comm
  simp only [State.lengthValue, htype, hvalid]
  rfl

/-- S_TRAILLEN at reset: S_SIGALG is 0 (R56). -/
theorem trailLenValue_resetWith (p : Params) : (State.resetWith p).trailLenValue =
    (sigAlgOf p 0).elim 0xFFFFFFFF (fun a => BitVec.ofNat 32 a.trailerLen) := by
  have hcode : sigAlgOf (State.resetWith p).params (State.resetWith p).sSigAlg = sigAlgOf p 0 := rfl
  rw [State.trailLenValue, hcode]
  cases sigAlgOf p 0 <;> rfl

/-- KEYLEN is wide enough for DUMMY_KEYLEN, which is at most 64 (R6, R57). -/
theorem read_keyLen_resetWith (p : Params) :
    Csr.read (State.resetWith p) .keyLen = BitVec.ofNat 32 Config.dummyKeyLen.val :=
  BitVec.setWidth_ofNat_of_le_of_lt (by decide) (by omega)

/-! ## The statements -/

/-- Settles O12: the start of the invariant that O11 keeps. -/
theorem resetIsLegal : Obligations.ResetIsLegal := legal_resetWith

/-- Settles O13: the computed registers, KEYLEN and KEYk by their lemmas, every other CSR by its reset value. -/
theorem resetLeavesTheStatedValues : Obligations.ResetLeavesTheStatedValues := by
  refine ⟨fun p c => ?_, fun p i hi => keyByte_resetWith p hi, fun p a => rfl, rfl⟩
  cases c with
  | length => exact congrArg (BitVec.setWidth 32) (lengthValue_resetWith p)
  | sTrailLen => exact trailLenValue_resetWith p
  | keyLen => exact read_keyLen_resetWith p
  | key k => exact getElem_resetKeyBank k
  | _ => rfl

/-- Settles O20: a platform reset is over at once, and an idle step has no event to perform. -/
theorem platformResetRestoresResetValues : Obligations.PlatformResetRestoresResetValues := by
  intro s rest
  refine ⟨fun hp => step_of_done hp rfl, fun hp => ?_⟩
  rw [step, nextAction_nil hp]

end Sys2Proof.Machine
end
